-- ==== Sys2Proof/Word.lean ====
section
/-! DEFINITION. The word types of the machine (00_scope.md R8, 10_state.md): every register value is an unsigned
number of its stated width. -/

namespace Sys2Proof

/-- A byte: a general register, a timer, a cell of memory, an 8-bit immediate. -/
abbrev Byte := BitVec 8

/-- A 16-bit word: `I`, `pc`, a return address, an instruction word (R12, R13, R15, R60). -/
abbrev Word := BitVec 16

/-- A register index `x` or `y` (R62). Every value names a register (R10). -/
abbrev RegIdx := BitVec 4

/-- A key number, 0 to 15 (R23, R24). -/
abbrev Key := BitVec 4

/-- A 12-bit address field `nnn` (R62). -/
abbrev Addr12 := BitVec 12

/-- The levels of the 16 keys, `true` for a key that is down (R23). -/
abbrev KeyLevels := Vector Bool 16

end Sys2Proof
end

