-- ==== Sys2Proof/Syntax.lean ====
section
/-! DEFINITION. The instructions: one constructor for each of the 34 rows of the opcode table (30_encoding.md R63),
with the fields its format uses (R61, R62). -/

namespace Sys2Proof

/-- A decoded instruction. `Invalid` is not an instruction but the decoder's verdict (see `Sys2Proof.Invalid`). -/
inductive Instr where
  /-- `00E0` -/
  | cls
  /-- `00EE` -/
  | ret
  /-- `1nnn` -/
  | jp (nnn : Addr12)
  /-- `2nnn` -/
  | call (nnn : Addr12)
  /-- `3xkk` -/
  | seb (x : RegIdx) (kk : Byte)
  /-- `4xkk` -/
  | sneb (x : RegIdx) (kk : Byte)
  /-- `5xy0` -/
  | ser (x y : RegIdx)
  /-- `6xkk` -/
  | ldb (x : RegIdx) (kk : Byte)
  /-- `7xkk` -/
  | addb (x : RegIdx) (kk : Byte)
  /-- `8xy0` -/
  | ldr (x y : RegIdx)
  /-- `8xy1` -/
  | or (x y : RegIdx)
  /-- `8xy2` -/
  | and (x y : RegIdx)
  /-- `8xy3` -/
  | xor (x y : RegIdx)
  /-- `8xy4` -/
  | addr (x y : RegIdx)
  /-- `8xy5` -/
  | sub (x y : RegIdx)
  /-- `8xy6`; `y` is decoded whatever the shift quirk says (R64) -/
  | shr (x y : RegIdx)
  /-- `8xy7` -/
  | subn (x y : RegIdx)
  /-- `8xyE`; `y` is decoded whatever the shift quirk says (R64) -/
  | shl (x y : RegIdx)
  /-- `9xy0` -/
  | sner (x y : RegIdx)
  /-- `Annn` -/
  | lda (nnn : Addr12)
  /-- `Bnnn` -/
  | jpv0 (nnn : Addr12)
  /-- `Cxkk` -/
  | rnd (x : RegIdx) (kk : Byte)
  /-- `Dxyn` -/
  | drw (x y : RegIdx) (n : BitVec 4)
  /-- `Ex9E` -/
  | skp (x : RegIdx)
  /-- `ExA1` -/
  | sknp (x : RegIdx)
  /-- `Fx07` -/
  | lddt (x : RegIdx)
  /-- `Fx0A` -/
  | ldkp (x : RegIdx)
  /-- `Fx15` -/
  | stdt (x : RegIdx)
  /-- `Fx18` -/
  | stst (x : RegIdx)
  /-- `Fx1E` -/
  | adda (x : RegIdx)
  /-- `Fx29` -/
  | ldf (x : RegIdx)
  /-- `Fx33` -/
  | bcd (x : RegIdx)
  /-- `Fx55` -/
  | strr (x : RegIdx)
  /-- `Fx65` -/
  | ldrr (x : RegIdx)
  deriving DecidableEq, Repr

end Sys2Proof
end

