-- ==== Sys2Proof/Decode.lean ====
section
/-! DEFINITION. The decoder (30_encoding.md R60 to R65), the encoder written from the same table (R63, R68), and the
table itself as data. -/

namespace Sys2Proof

/-- The decoder's verdict on a word that matches no row of the table: it carries the word (R64, R65). -/
structure Invalid where
  word : Word
  deriving DecidableEq, Repr

/-- Why a list of bytes does not begin with an instruction. -/
inductive Reject where
  /-- its first two bytes form a word that is no instruction (R65) -/
  | invalid (word : Word)
  /-- it has fewer than two bytes (R60: every instruction is exactly two) -/
  | truncated
  deriving DecidableEq, Repr

/-! The fields of a word, cut by fixed bit positions whatever the format (R62). -/

/-- `op`, bits 15 to 12: the family. -/
def opField (w : Word) : BitVec 4 := w.extractLsb' 12 4
/-- `x`, bits 11 to 8. -/
def xField (w : Word) : RegIdx := w.extractLsb' 8 4
/-- `y`, bits 7 to 4. -/
def yField (w : Word) : RegIdx := w.extractLsb' 4 4
/-- `n`, bits 3 to 0. -/
def nField (w : Word) : BitVec 4 := w.extractLsb' 0 4
/-- `kk`, bits 7 to 0. -/
def kkField (w : Word) : Byte := w.extractLsb' 0 8
/-- `nnn`, bits 11 to 0. -/
def nnnField (w : Word) : Addr12 := w.extractLsb' 0 12

/-- Family `8` by its selector `n` (R64); the other seven selectors are Invalid (R65). -/
def decode8 (w : Word) : Except Invalid Instr :=
  match (nField w).toNat with
  | 0x0 => .ok (.ldr (xField w) (yField w))
  | 0x1 => .ok (.or (xField w) (yField w))
  | 0x2 => .ok (.and (xField w) (yField w))
  | 0x3 => .ok (.xor (xField w) (yField w))
  | 0x4 => .ok (.addr (xField w) (yField w))
  | 0x5 => .ok (.sub (xField w) (yField w))
  | 0x6 => .ok (.shr (xField w) (yField w))
  | 0x7 => .ok (.subn (xField w) (yField w))
  | 0xE => .ok (.shl (xField w) (yField w))
  | _ => .error ⟨w⟩

/-- Family `E` by its selector `kk` (R64). -/
def decodeE (w : Word) : Except Invalid Instr :=
  match (kkField w).toNat with
  | 0x9E => .ok (.skp (xField w))
  | 0xA1 => .ok (.sknp (xField w))
  | _ => .error ⟨w⟩

/-- Family `F` by its selector `kk` (R64). -/
def decodeF (w : Word) : Except Invalid Instr :=
  match (kkField w).toNat with
  | 0x07 => .ok (.lddt (xField w))
  | 0x0A => .ok (.ldkp (xField w))
  | 0x15 => .ok (.stdt (xField w))
  | 0x18 => .ok (.stst (xField w))
  | 0x1E => .ok (.adda (xField w))
  | 0x29 => .ok (.ldf (xField w))
  | 0x33 => .ok (.bcd (xField w))
  | 0x55 => .ok (.strr (xField w))
  | 0x65 => .ok (.ldrr (xField w))
  | _ => .error ⟨w⟩

/-- The decoder, a pure total function of the 16 bits (R60, R64). The last arm is family `F`, the only one left. -/
def decode (w : Word) : Except Invalid Instr :=
  match (opField w).toNat with
  | 0x0 => if w = 0x00E0#16 then .ok .cls else if w = 0x00EE#16 then .ok .ret else .error ⟨w⟩
  | 0x1 => .ok (.jp (nnnField w))
  | 0x2 => .ok (.call (nnnField w))
  | 0x3 => .ok (.seb (xField w) (kkField w))
  | 0x4 => .ok (.sneb (xField w) (kkField w))
  | 0x5 => if nField w = 0#4 then .ok (.ser (xField w) (yField w)) else .error ⟨w⟩
  | 0x6 => .ok (.ldb (xField w) (kkField w))
  | 0x7 => .ok (.addb (xField w) (kkField w))
  | 0x8 => decode8 w
  | 0x9 => if nField w = 0#4 then .ok (.sner (xField w) (yField w)) else .error ⟨w⟩
  | 0xA => .ok (.lda (nnnField w))
  | 0xB => .ok (.jpv0 (nnnField w))
  | 0xC => .ok (.rnd (xField w) (kkField w))
  | 0xD => .ok (.drw (xField w) (yField w) (nField w))
  | 0xE => decodeE w
  | _ => decodeF w

/-- The word of two bytes in memory order: the byte at the lower address is bits 15 to 8 (20_memory.md R44). -/
def wordOfBytes (hi lo : Byte) : Word := hi ++ lo

/-- The instruction at the head of a list of bytes in memory order, with the rest of the list. -/
def decodeBytes : List Byte → Except Reject (Instr × List Byte)
  | hi :: lo :: rest =>
    match decode (wordOfBytes hi lo) with
    | .ok i => .ok (i, rest)
    | .error e => .error (.invalid e.word)
  | _ => .error .truncated

/-- Format `A` (R61). -/
def formA (op : BitVec 4) (nnn : Addr12) : Word := op ++ nnn
/-- Formats `XK` and `XF` (R61): in `XF` the low byte is the selector. -/
def formXK (op : BitVec 4) (x : RegIdx) (kk : Byte) : Word := op ++ x ++ kk
/-- Formats `XY` and `XYN` (R61): in `XY` the low nibble is the selector. -/
def formXYN (op : BitVec 4) (x y : RegIdx) (n : BitVec 4) : Word := op ++ x ++ y ++ n

/-- The word of an instruction, by the patterns of R63 (R68). -/
def encode : Instr → Word
  | .cls => 0x00E0#16
  | .ret => 0x00EE#16
  | .jp nnn => formA 0x1#4 nnn
  | .call nnn => formA 0x2#4 nnn
  | .seb x kk => formXK 0x3#4 x kk
  | .sneb x kk => formXK 0x4#4 x kk
  | .ser x y => formXYN 0x5#4 x y 0x0#4
  | .ldb x kk => formXK 0x6#4 x kk
  | .addb x kk => formXK 0x7#4 x kk
  | .ldr x y => formXYN 0x8#4 x y 0x0#4
  | .or x y => formXYN 0x8#4 x y 0x1#4
  | .and x y => formXYN 0x8#4 x y 0x2#4
  | .xor x y => formXYN 0x8#4 x y 0x3#4
  | .addr x y => formXYN 0x8#4 x y 0x4#4
  | .sub x y => formXYN 0x8#4 x y 0x5#4
  | .shr x y => formXYN 0x8#4 x y 0x6#4
  | .subn x y => formXYN 0x8#4 x y 0x7#4
  | .shl x y => formXYN 0x8#4 x y 0xE#4
  | .sner x y => formXYN 0x9#4 x y 0x0#4
  | .lda nnn => formA 0xA#4 nnn
  | .jpv0 nnn => formA 0xB#4 nnn
  | .rnd x kk => formXK 0xC#4 x kk
  | .drw x y n => formXYN 0xD#4 x y n
  | .skp x => formXK 0xE#4 x 0x9E#8
  | .sknp x => formXK 0xE#4 x 0xA1#8
  | .lddt x => formXK 0xF#4 x 0x07#8
  | .ldkp x => formXK 0xF#4 x 0x0A#8
  | .stdt x => formXK 0xF#4 x 0x15#8
  | .stst x => formXK 0xF#4 x 0x18#8
  | .adda x => formXK 0xF#4 x 0x1E#8
  | .ldf x => formXK 0xF#4 x 0x29#8
  | .bcd x => formXK 0xF#4 x 0x33#8
  | .strr x => formXK 0xF#4 x 0x55#8
  | .ldrr x => formXK 0xF#4 x 0x65#8

/-- The two bytes of a word in memory order (R44). -/
def bytesOfWord (w : Word) : List Byte := [w.extractLsb' 8 8, w.extractLsb' 0 8]

/-- The bytes of an instruction in memory order (R60). -/
def encodeBytes (i : Instr) : List Byte := bytesOfWord (encode i)

/-- A row of the opcode table (R63): a word is the instruction iff its masked bits are the match. -/
structure OpcodeRow where
  mnemonic : String
  mask : Word
  matchBits : Word
  deriving DecidableEq, Repr

/-- Whether a word is the row's instruction. -/
def OpcodeRow.accepts (r : OpcodeRow) (w : Word) : Bool := w &&& r.mask == r.matchBits

/-- Rows of families `0` to `7` (R63). -/
def opcodeRowsLow : List OpcodeRow :=
  [⟨"CLS", 0xFFFF, 0x00E0⟩, ⟨"RET", 0xFFFF, 0x00EE⟩, ⟨"JP", 0xF000, 0x1000⟩, ⟨"CALL", 0xF000, 0x2000⟩,
   ⟨"SEB", 0xF000, 0x3000⟩, ⟨"SNEB", 0xF000, 0x4000⟩, ⟨"SER", 0xF00F, 0x5000⟩, ⟨"LDB", 0xF000, 0x6000⟩,
   ⟨"ADDB", 0xF000, 0x7000⟩]

/-- Rows of families `8` to `D` (R63). -/
def opcodeRowsMid : List OpcodeRow :=
  [⟨"LDR", 0xF00F, 0x8000⟩, ⟨"OR", 0xF00F, 0x8001⟩, ⟨"AND", 0xF00F, 0x8002⟩, ⟨"XOR", 0xF00F, 0x8003⟩,
   ⟨"ADDR", 0xF00F, 0x8004⟩, ⟨"SUB", 0xF00F, 0x8005⟩, ⟨"SHR", 0xF00F, 0x8006⟩, ⟨"SUBN", 0xF00F, 0x8007⟩,
   ⟨"SHL", 0xF00F, 0x800E⟩, ⟨"SNER", 0xF00F, 0x9000⟩, ⟨"LDA", 0xF000, 0xA000⟩, ⟨"JPV0", 0xF000, 0xB000⟩,
   ⟨"RND", 0xF000, 0xC000⟩, ⟨"DRW", 0xF000, 0xD000⟩]

/-- Rows of families `E` and `F` (R63). -/
def opcodeRowsHigh : List OpcodeRow :=
  [⟨"SKP", 0xF0FF, 0xE09E⟩, ⟨"SKNP", 0xF0FF, 0xE0A1⟩, ⟨"LDDT", 0xF0FF, 0xF007⟩, ⟨"LDKP", 0xF0FF, 0xF00A⟩,
   ⟨"STDT", 0xF0FF, 0xF015⟩, ⟨"STST", 0xF0FF, 0xF018⟩, ⟨"ADDA", 0xF0FF, 0xF01E⟩, ⟨"LDF", 0xF0FF, 0xF029⟩,
   ⟨"BCD", 0xF0FF, 0xF033⟩, ⟨"STRR", 0xF0FF, 0xF055⟩, ⟨"LDRR", 0xF0FF, 0xF065⟩]

/-- The opcode table (R63), 34 rows. -/
def opcodeTable : List OpcodeRow := opcodeRowsLow ++ opcodeRowsMid ++ opcodeRowsHigh

/-- The name of the instruction's row (R63). -/
def mnemonic : Instr → String
  | .cls => "CLS" | .ret => "RET" | .jp _ => "JP" | .call _ => "CALL"
  | .seb _ _ => "SEB" | .sneb _ _ => "SNEB" | .ser _ _ => "SER" | .ldb _ _ => "LDB" | .addb _ _ => "ADDB"
  | .ldr _ _ => "LDR" | .or _ _ => "OR" | .and _ _ => "AND" | .xor _ _ => "XOR" | .addr _ _ => "ADDR"
  | .sub _ _ => "SUB" | .shr _ _ => "SHR" | .subn _ _ => "SUBN" | .shl _ _ => "SHL" | .sner _ _ => "SNER"
  | .lda _ => "LDA" | .jpv0 _ => "JPV0" | .rnd _ _ => "RND" | .drw _ _ _ => "DRW"
  | .skp _ => "SKP" | .sknp _ => "SKNP" | .lddt _ => "LDDT" | .ldkp _ => "LDKP" | .stdt _ => "STDT"
  | .stst _ => "STST" | .adda _ => "ADDA" | .ldf _ => "LDF" | .bcd _ => "BCD" | .strr _ => "STRR"
  | .ldrr _ => "LDRR"

/-- A hexadecimal digit as the assembler writes it. -/
def hexDigit (d : BitVec 4) : String :=
  match d.toNat with
  | 0 => "0" | 1 => "1" | 2 => "2" | 3 => "3" | 4 => "4" | 5 => "5" | 6 => "6" | 7 => "7"
  | 8 => "8" | 9 => "9" | 10 => "A" | 11 => "B" | 12 => "C" | 13 => "D" | 14 => "E" | _ => "F"

/-- `V0` to `VF` (R10, R69). -/
def regName (x : RegIdx) : String := "V" ++ hexDigit x
/-- A byte in hexadecimal with `0x` (R69). -/
def hexByte (b : Byte) : String := "0x" ++ hexDigit (b.extractLsb' 4 4) ++ hexDigit (b.extractLsb' 0 4)
/-- A 12-bit address in hexadecimal with `0x` (R69). -/
def hexAddr (a : Addr12) : String :=
  "0x" ++ hexDigit (a.extractLsb' 8 4) ++ hexDigit (a.extractLsb' 4 4) ++ hexDigit (a.extractLsb' 0 4)

/-- The row count of DRW as a decimal number. DESIGN CHOICE (safe, log 29): R69 fixes neither base nor digit count; the
programs of 95_test_vectors.md write 1 and 5 plain, and R69 marks a hexadecimal number with `0x`. -/
def rowCount (n : BitVec 4) : String := if n.toNat < 10 then hexDigit n else "1" ++ hexDigit (n - 10)

/-- The customary assembler spelling of an instruction (R69). DESIGN CHOICE (safe, log 29), where R69 fixes no form:
capital digits, three for an address and two for a byte, the row count of DRW in decimal, SHR and SHL with both
registers. -/
def spelling : Instr → String
  | .cls => "CLS"
  | .ret => "RET"
  | .jp nnn => "JP " ++ hexAddr nnn
  | .call nnn => "CALL " ++ hexAddr nnn
  | .seb x kk => "SE " ++ regName x ++ ", " ++ hexByte kk
  | .sneb x kk => "SNE " ++ regName x ++ ", " ++ hexByte kk
  | .ser x y => "SE " ++ regName x ++ ", " ++ regName y
  | .ldb x kk => "LD " ++ regName x ++ ", " ++ hexByte kk
  | .addb x kk => "ADD " ++ regName x ++ ", " ++ hexByte kk
  | .ldr x y => "LD " ++ regName x ++ ", " ++ regName y
  | .or x y => "OR " ++ regName x ++ ", " ++ regName y
  | .and x y => "AND " ++ regName x ++ ", " ++ regName y
  | .xor x y => "XOR " ++ regName x ++ ", " ++ regName y
  | .addr x y => "ADD " ++ regName x ++ ", " ++ regName y
  | .sub x y => "SUB " ++ regName x ++ ", " ++ regName y
  | .shr x y => "SHR " ++ regName x ++ ", " ++ regName y
  | .subn x y => "SUBN " ++ regName x ++ ", " ++ regName y
  | .shl x y => "SHL " ++ regName x ++ ", " ++ regName y
  | .sner x y => "SNE " ++ regName x ++ ", " ++ regName y
  | .lda nnn => "LD I, " ++ hexAddr nnn
  | .jpv0 nnn => "JP V0, " ++ hexAddr nnn
  | .rnd x kk => "RND " ++ regName x ++ ", " ++ hexByte kk
  | .drw x y n => "DRW " ++ regName x ++ ", " ++ regName y ++ ", " ++ rowCount n
  | .skp x => "SKP " ++ regName x
  | .sknp x => "SKNP " ++ regName x
  | .lddt x => "LD " ++ regName x ++ ", DT"
  | .ldkp x => "LD " ++ regName x ++ ", K"
  | .stdt x => "LD DT, " ++ regName x
  | .stst x => "LD ST, " ++ regName x
  | .adda x => "ADD I, " ++ regName x
  | .ldf x => "LD F, " ++ regName x
  | .bcd x => "LD B, " ++ regName x
  | .strr x => "LD [I], " ++ regName x
  | .ldrr x => "LD " ++ regName x ++ ", [I]"

/-- What the decoder reads from an instruction whose bits are `w`, numbered as the opcode table numbers them. Every
row has one word, so bit 0 is the least significant bit of the instruction word; the word is laid out as memory
holds it (R44) and given to `decodeBytes`. Bits from `nbits` up are 0. -/
def decodeTableWord (nbits w : Nat) : Option Instr :=
  match decodeBytes (bytesOfWord (BitVec.ofNat 16 (w % 2 ^ nbits))) with
  | .ok (i, _) => some i
  | .error _ => none

end Sys2Proof
end

