-- ==== Sys2Proof/Config.lean ====
section
/-! DEFINITION. The parameters of the machine: the Settings of 00_scope.md R6 and the parameters of R7 that the
core reads after construction. The ROM (R7) is an argument of construction only. The spec leaves no result of an
instruction undefined, so there is no free value here. -/

namespace Sys2Proof

/-- `STACK_POLICY` (R7, D7): what CALL at depth 16 and RET at depth 0 do. -/
inductive StackPolicy where
  /-- they raise `StackOverflow` and `StackUnderflow` -/
  | fault
  /-- `SP` wraps mod 256 and the stack is indexed by `SP mod 16` -/
  | wrap
  deriving DecidableEq, Repr

/-- The read-only configuration record (R6, R7). Times and frequencies are exact rationals (D19). -/
structure Settings where
  /-- `CPU_HZ` -/
  cpuHz : Rat
  /-- `DELAY_HZ` -/
  delayHz : Rat
  /-- `SOUND_HZ` -/
  soundHz : Rat
  /-- `RNG_SEED` -/
  rngSeed : Nat
  /-- `SHIFT_QUIRK` -/
  shiftQuirk : Bool
  /-- `LOAD_STORE_QUIRK` -/
  loadStoreQuirk : Bool
  /-- `ADDRESS_OVERFLOW_QUIRK` -/
  addressOverflowQuirk : Bool
  /-- `VERTICAL_WRAP` -/
  verticalWrap : Bool
  /-- `MUTE` -/
  mute : Bool
  /-- `STACK_POLICY` -/
  stackPolicy : StackPolicy
  /-- `FONT_BASE` -/
  fontBase : Nat
  /-- `T0`, the time of reset -/
  t0 : Rat
  deriving DecidableEq, Repr

/-- The defaults of R6 and R7. DESIGN CHOICE (unsafe, log 2): `rngSeed`, `fontBase` and `t0` are OPEN in the spec;
0 is the value the spec's own examples and test vectors use. -/
def Settings.default : Settings where
  cpuHz := 700
  delayHz := 60
  soundHz := 60
  rngSeed := 0
  shiftQuirk := true
  loadStoreQuirk := false
  addressOverflowQuirk := false
  verticalWrap := false
  mute := false
  stackPolicy := .fault
  fontBase := 0
  t0 := 0

end Sys2Proof
end

