-- ==== Sys2Proof/Machine/State.lean ====
section
/-! DEFINITION. The state of the machine as plain data (10_state.md R10 to R31), the inputs and outputs of the host
loop (60_exceptions.md R176 to R181), the reasons a step can stop, and the state after reset. -/

namespace Sys2Proof.Machine

/-- The three fatal conditions (R160 to R162). They have no numeric codes (R165). -/
inductive FaultKind where
  | invalidOpcode
  | stackOverflow
  | stackUnderflow
  deriving DecidableEq, Repr

/-- What a fatal condition records (R18): its kind, the `pc` of the fetch, and the 16 bits fetched. -/
structure FaultRecord where
  kind : FaultKind
  addr : Word
  word : Word
  deriving DecidableEq, Repr

/-- The five atomic events that drive the machine (00_scope.md R9, D29). -/
inductive Event where
  /-- `CpuStep(s)`: one fetch-decode-execute cycle with these key levels (R176) -/
  | cpuStep (levels : KeyLevels)
  /-- `DelayTick` (R173) -/
  | delayTick
  /-- `SoundTick` (R174) -/
  | soundTick
  /-- `KeyEvent(k)` (R177) -/
  | keyEvent (k : Key)
  /-- `Quit` (R178) -/
  | quit
  deriving DecidableEq, Repr

/-- What one iteration of the host loop takes from the Platform (R180, R181). On a key press or a quit the clocks are
not checked, so the time and the key levels are read only when `poll_event` answers `None`. -/
inductive Poll where
  /-- `KeyPress(k)` -/
  | keyPress (k : Key)
  /-- `Quit` -/
  | quit
  /-- `None`, with the current time and the levels `keyboard_state()` answers -/
  | idle (now : Rat) (levels : KeyLevels)
  deriving DecidableEq, Repr

/-- An input of the machine: an atomic event, or a whole iteration of the host loop (log 4, log 5). -/
inductive Input where
  | event (e : Event)
  | poll (p : Poll)
  deriving DecidableEq, Repr

/-- A call of the Platform by the core or the host loop (R175, R181). -/
inductive PlatformCall where
  | clear
  | drawPixel (x y : Nat)
  | present
  | beep (active : Bool)
  deriving DecidableEq, Repr

/-- The MODEL's own part of the state: the inputs not served yet, whether the loop was ended by `Quit`, and the outputs
made so far. None of it is state of the core (R29). -/
structure Platform where
  /-- inputs still to be served, oldest first -/
  inbox : List Input
  /-- `Quit` has ended the loop (R178) -/
  quit : Bool
  /-- Platform calls made so far, oldest first -/
  calls : List PlatformCall
  deriving DecidableEq, Repr

/-- Memory in its canonical form: cells by rising address, none equal to what an unlisted address reads as (see
`Memory.wf`). -/
abbrev Memory := List Host.Cell

/-- The state: the elements of R31 in the order of 10_state.md, then the model's own two fields, `settings`, the
read-only parameters (R29, log 1), and `platform`. -/
structure State where
  /-- `V[0]` to `V[15]` (R10); `VF` is `V[15]` (R11) -/
  v : Vector Byte 16
  /-- `I` (R12) -/
  i : Word
  /-- `pc` (R13) -/
  pc : Word
  /-- `SP` (R14): the number of return addresses on the stack -/
  sp : Byte
  /-- `stack[0]` to `stack[15]` (R15) -/
  stack : Vector Word 16
  /-- `DT` (R16) -/
  dt : Byte
  /-- `ST` (R17) -/
  st : Byte
  /-- `fault` (R18) -/
  fault : Option FaultRecord
  /-- `mem` (R20) -/
  mem : Memory
  /-- `fb[y][x]` (R21) -/
  fb : Vector (Vector Bool 64) 32
  /-- `dirty` (R22) -/
  dirty : Bool
  /-- `keys[0]` to `keys[15]` (R23) -/
  keys : KeyLevels
  /-- `waiting` (R24) -/
  waiting : Bool
  /-- `pending` (R24) -/
  pending : Option Key
  /-- `rng` (R26) -/
  rng : Nat
  /-- `clk_cpu.ref` (R27) -/
  clkCpu : Rat
  /-- `clk_delay.ref` (R27) -/
  clkDelay : Rat
  /-- `clk_sound.ref` (R27) -/
  clkSound : Rat
  /-- `sound_on` (R28) -/
  soundOn : Bool
  /-- the Settings and parameters (R6, R7), which nothing writes (R191) -/
  settings : Settings
  /-- the environment's side -/
  platform : Platform
  deriving DecidableEq, Repr

/-- Reasons a step stops with a fault of the HOST's kind. There is none: the machine's three fatal conditions are
recorded in `State.fault` and lead to a next state (R163), no memory access can fail (R41, R42), and every register
holds a value (R31). Safe: a state in which the real machine is over steps to itself (R87, log 6). -/
inductive Fault where
  deriving DecidableEq, Repr

/-- Reasons a step has no next state. -/
inductive Refusal where
  /-- Raised by an arm of `exec` whose instruction has no meaning yet; no arm is left with it. Safe: nothing is said
  of the instruction. -/
  | notModelled (mnemonic : String)
  /-- Raised by an idle poll of the host loop in a state whose settings fail the check of construction, such as a
  frequency that is not positive: the spec constructs no such machine (D19, U11). Safe: no state that construction
  leads to has such settings (log 20). -/
  | settingsRefused
  deriving DecidableEq, Repr

/-- What a meaning or a step answers. -/
abbrev Result := Host.Outcome State Fault Refusal

/-- The state after reset of a machine constructed with these parameters and an empty ROM (R31, R190). -/
def State.init (c : Settings) : State where
  v := Vector.replicate 16 0
  i := 0
  pc := 0x200
  sp := 0
  stack := Vector.replicate 16 0
  dt := 0
  st := 0
  fault := none
  mem := []
  fb := Vector.replicate 32 (Vector.replicate 64 false)
  dirty := false
  keys := Vector.replicate 16 false
  waiting := false
  pending := none
  rng := c.rngSeed
  clkCpu := c.t0
  clkDelay := c.t0
  clkSound := c.t0
  soundOn := false
  settings := c
  platform := { inbox := [], quit := false, calls := [] }

/-- The machine right after reset, with the default parameters and an empty ROM (R31, log 2). -/
def State.reset : State := State.init Settings.default

end Sys2Proof.Machine
end

