-- ==== Sys2Proof/Machine/Flags.lean ====
section
/-! DEFINITION. The flag computations: every value `VF` receives as a side effect (10_state.md R11). -/

namespace Sys2Proof.Machine

/-- A flag as the byte `VF` receives: 1 or 0. -/
def flagByte (b : Bool) : Byte := if b then 1 else 0

/-- ADDR: the unsigned carry out of bit 7 (R107, R113). -/
def carryOut (a b : Byte) : Bool := decide (a.toNat + b.toNat > 255)

/-- SUB and SUBN: no borrow in `minuend - subtrahend` (R108, R110). -/
def noBorrow (minuend subtrahend : Byte) : Bool := decide (minuend.toNat ≥ subtrahend.toNat)

/-- SHR: the bit shifted out, bit 0 of the source (R109). -/
def shiftedOutRight (s : Byte) : Bool := s.getLsbD 0

/-- SHL: the bit shifted out, bit 7 of the source (R111). -/
def shiftedOutLeft (s : Byte) : Bool := s.getLsbD 7

/-- ADDA: the 16-bit addition overflows `0xFFFF` (R122, U6). -/
def addressOverflow (i : Word) (b : Byte) : Bool := decide (i.toNat + b.toNat > 0xFFFF)

end Sys2Proof.Machine
end

