-- ==== Sys2Proof/Machine/Ops.lean ====
section
/-! DEFINITION. The named operations over memory and registers, and those of the blocks of the core (00_scope.md R5,
R9): memory and font (20_memory.md), registers, program counter and call stack (10_state.md, 41_flow.md), the fault
entry (60_exceptions.md R163), the generator (42_alu.md R114), the display (44_display.md R130 to R132), the keyboard
(45_keyboard_timers.md R140 to R143). -/

namespace Sys2Proof.Machine

/-! ### The font and the reset image -/

/-- The glyphs `0` to `7` of R49, five bytes each. -/
def fontLow : List Byte :=
  [0xF0, 0x90, 0x90, 0x90, 0xF0,  0x20, 0x60, 0x20, 0x20, 0x70,  0xF0, 0x10, 0xF0, 0x80, 0xF0,
   0xF0, 0x10, 0xF0, 0x10, 0xF0,  0x90, 0x90, 0xF0, 0x10, 0x10,  0xF0, 0x80, 0xF0, 0x10, 0xF0,
   0xF0, 0x80, 0xF0, 0x90, 0xF0,  0xF0, 0x10, 0x20, 0x40, 0x40]

/-- The glyphs `8` to `F` of R49, five bytes each. -/
def fontHigh : List Byte :=
  [0xF0, 0x90, 0xF0, 0x90, 0xF0,  0xF0, 0x90, 0xF0, 0x10, 0xF0,  0xF0, 0x90, 0xF0, 0x90, 0x90,
   0xE0, 0x90, 0xE0, 0x90, 0xE0,  0xF0, 0x80, 0x80, 0x80, 0xF0,  0xE0, 0x90, 0x90, 0x90, 0xE0,
   0xF0, 0x80, 0xF0, 0x80, 0xF0,  0xF0, 0x80, 0xF0, 0x80, 0x80]

/-- Font byte `k`, 0 to 79 (R49). -/
def fontByte (k : Nat) : Byte := (fontLow ++ fontHigh).getD k 0

/-- What an unlisted address reads as: the reset image of R50 with an empty ROM, the font at `base` and zeros. -/
def resetByte (base a : Nat) : Byte :=
  if base ≤ a ∧ a < base + 80 then fontByte (a - base) else 0

/-- `font_glyph_address(d)` (R43). It reads no memory. -/
def glyphAddress (base : Nat) (d : BitVec 4) : Nat := base + 5 * d.toNat

/-! ### Memory cells -/

/-- The byte at an address. -/
def readCell (base : Nat) : Memory → Nat → Byte
  | [], a => resetByte base a
  | (b, u) :: rest, a => if b = a then u else readCell base rest a

/-- The cells with those of one address taken out. -/
def eraseCell : Memory → Nat → Memory
  | [], _ => []
  | (b, u) :: rest, a => if b = a then eraseCell rest a else (b, u) :: eraseCell rest a

/-- The cells with one put in its place. -/
def putCell : Memory → Nat → Byte → Memory
  | [], a, x => [(a, x)]
  | (b, u) :: rest, a, x =>
    if a < b then (a, x) :: (b, u) :: rest
    else if b = a then (a, x) :: rest
    else (b, u) :: putCell rest a x

/-- The cells after a byte is written: the value an unlisted address reads as is not listed. -/
def writeCell (base : Nat) (m : Memory) (a : Nat) (x : Byte) : Memory :=
  if x = resetByte base a then eraseCell m a else putCell m a x

/-- The canonical form: addresses strictly rising and inside the 4096 bytes, no cell equal to what an unlisted address
reads as. -/
abbrev Memory.wf (base : Nat) (m : Memory) : Prop :=
  m.Pairwise (fun c d => c.1 < d.1) ∧ ∀ c ∈ m, c.1 < 4096 ∧ c.2 ≠ resetByte base c.1

/-- `MemRead(addr, 1)`: the address is reduced mod 4096 and the read cannot fail (R41). -/
def State.readByte (s : State) (addr : Nat) : Byte := readCell s.settings.fontBase s.mem (addr % 4096)

/-- `MemWrite(addr, 1, x)`: the address is reduced mod 4096 and the write cannot fail (R42). -/
def State.writeByte (s : State) (addr : Nat) (x : Byte) : State :=
  { s with mem := writeCell s.settings.fontBase s.mem (addr % 4096) x }

/-- `MemRead(addr, 2)`: big-endian, each byte address reduced by itself (R44). -/
def State.readWord (s : State) (addr : Nat) : Word := wordOfBytes (s.readByte addr) (s.readByte (addr + 1))

/-- Bytes written at rising addresses, the first at `addr`. -/
def State.writeBytes (s : State) (addr : Nat) : List Byte → State
  | [] => s
  | b :: rest => (s.writeByte addr b).writeBytes (addr + 1) rest

/-! ### Registers -/

/-- `V[x]` (R10). -/
def State.getV (s : State) (x : RegIdx) : Byte := s.v[x.toNat]'x.isLt

/-- `V[x] <- b` (R10). -/
def State.setV (s : State) (x : RegIdx) (b : Byte) : State := { s with v := s.v.set x.toNat b x.isLt }

/-- `VF <- 1` or `0` (R11). -/
def State.setVF (s : State) (flag : Bool) : State := s.setV 0xF (flagByte flag)

/-- `I <- w` (R12). -/
def State.setI (s : State) (w : Word) : State := { s with i := w }

/-- `pc <- w` (R13). -/
def State.setPc (s : State) (w : Word) : State := { s with pc := w }

/-- `pc <- (pc + 2) mod 65536`: the unconditional advance of a cycle (40_cycle.md R82). -/
def State.advance (s : State) : State := s.setPc (s.pc + 2)

/-- `pc <- (pc - 2) mod 65536`: back to the instruction, which repeats at the next step (R146). -/
def State.rewind (s : State) : State := s.setPc (s.pc - 2)

/-- Skip one instruction when the condition holds (41_flow.md R90). -/
def State.skipIf (s : State) (cond : Bool) : State := if cond then s.advance else s

/-- `DT <- b` (R16). -/
def State.setDT (s : State) (b : Byte) : State := { s with dt := b }

/-- `ST <- b` (R17). -/
def State.setST (s : State) (b : Byte) : State := { s with st := b }

/-! ### The call stack -/

/-- `stack[sp mod 16]` (R15, R91). -/
def State.stackAt (s : State) (sp : Byte) : Word := s.stack[sp.toNat % 16]'(Nat.mod_lt _ (by decide))

/-- Push `pc`: write, then increment (R93, D8). -/
def State.pushPc (s : State) : State :=
  { s with stack := s.stack.set (s.sp.toNat % 16) s.pc (Nat.mod_lt _ (by decide)), sp := s.sp + 1 }

/-- Pop into `pc`: decrement, then read; the entry is not cleared (R91, D8). -/
def State.popPc (s : State) : State := { s with sp := s.sp - 1, pc := s.stackAt (s.sp - 1) }

/-! ### The fault entry -/

/-- `raise F(addr, word)` (R163): `fault` is set, nothing else changes. `addr` is the `pc` of the fetch, which the
advance has moved on by 2 (R82, log 9). There is no return from a fault (R164), so no operation beside this one
clears it. -/
def State.raise (s : State) (kind : FaultKind) (word : Word) : State :=
  { s with fault := some { kind := kind, addr := s.pc - 2, word := word } }

/-- Whether a fatal condition has ended the run (R18). -/
def State.faulted (s : State) : Bool := s.fault.isSome

/-! ### The generator -/

/-- `seed' = (48271 * seed + 1) mod (2^31 - 1)` on mathematical integers (R114). -/
def rngStep (seed : Nat) : Nat := (48271 * seed + 1) % 2147483647

/-- `rng_next()` (R114): the new state, and its low byte. -/
def State.rngNext (s : State) : State × Byte := ({ s with rng := rngStep s.rng }, BitVec.ofNat 8 (rngStep s.rng))

/-! ### The display -/

/-- `fb[y mod 32][x mod 64]` (R131). -/
def State.pixel (s : State) (x y : Nat) : Bool :=
  (s.fb[y % 32]'(Nat.mod_lt _ (by decide)))[x % 64]'(Nat.mod_lt _ (by decide))

/-- A grid with one pixel written at `(x mod 64, y mod 32)` (R131). -/
def setCell (fb : Vector (Vector Bool 64) 32) (x y : Nat) (b : Bool) : Vector (Vector Bool 64) 32 :=
  fb.set (y % 32) ((fb[y % 32]'(Nat.mod_lt _ (by decide))).set (x % 64) b (Nat.mod_lt _ (by decide)))
    (Nat.mod_lt _ (by decide))

/-- `display_clear()` (R130). -/
def State.displayClear (s : State) : State :=
  { s with fb := Vector.replicate 32 (Vector.replicate 64 false), dirty := true }

/-- `set_pixel(x, y, value)` (R131): the XOR rule, and whether a lit pixel became unlit. -/
def State.setPixel (s : State) (x y : Nat) (value : Bool) : State × Bool :=
  (if value then { s with fb := setCell s.fb x y (!s.pixel x y), dirty := true } else s, s.pixel x y && value)

/-- `consume_dirty()` (R132). -/
def State.consumeDirty (s : State) : State × Bool := ({ s with dirty := false }, s.dirty)

/-! ### The keyboard -/

/-- `set_state(levels)` (R140). -/
def State.setKeys (s : State) (levels : KeyLevels) : State := { s with keys := levels }

/-- `is_down(k)` (R141). -/
def State.isDown (s : State) (k : Key) : Bool := s.keys[k.toNat]'k.isLt

/-- Write the latch (R24). -/
def State.setLatch (s : State) (waiting : Bool) (pending : Option Key) : State :=
  { s with waiting := waiting, pending := pending }

/-- `push_event(k)` (R142): kept only while the latch is armed and empty. -/
def State.pushEvent (s : State) (k : Key) : State :=
  if s.waiting && s.pending.isNone then s.setLatch s.waiting (some k) else s

/-- `poll_wait()` (R143): arm, consume, or go on waiting. -/
def State.pollWait (s : State) : State × Option Key :=
  if !s.waiting then (s.setLatch true none, none)
  else
    match s.pending with
    | some k => (s.setLatch false none, some k)
    | none => (s, none)

/-! ### The clocks, the sound flag and the Platform -/

/-- `clk_cpu.ref <- r` (R27). -/
def State.setClkCpu (s : State) (r : Rat) : State := { s with clkCpu := r }

/-- `clk_delay.ref <- r` (R27). -/
def State.setClkDelay (s : State) (r : Rat) : State := { s with clkDelay := r }

/-- `clk_sound.ref <- r` (R27). -/
def State.setClkSound (s : State) (r : Rat) : State := { s with clkSound := r }

/-- `sound_on <- b` (R28). -/
def State.setSoundOn (s : State) (b : Bool) : State := { s with soundOn := b }

/-- Calls of the Platform, after the ones made before (R181). -/
def State.emit (s : State) (calls : List PlatformCall) : State :=
  { s with platform := { s.platform with calls := s.platform.calls ++ calls } }

end Sys2Proof.Machine
end

