-- ==== Sys2Proof/Machine/Operands.lean ====
section
/-! DEFINITION. The operand forms: how an instruction's fields and registers become the values it works on
(42_alu.md R100, R109, R111; 43_index_memory.md R120; 44_display.md R134; 92_eei_decisions.md D14). -/

namespace Sys2Proof.Machine

/-- The low nibble of a register: the key number of SKP and SKNP and the digit of LDF (D14). -/
def lowNibble (b : Byte) : BitVec 4 := b.extractLsb' 0 4

/-- A key number as the byte LDKP writes: the upper four bits are 0 (R146). -/
def keyByte (k : Key) : Byte := k.setWidth 8

/-- A 12-bit address where it meets a 16-bit register: zero-extended (R62). -/
def zext16 (nnn : Addr12) : Word := nnn.setWidth 16

/-- The one addressing mode: `I + k`, a natural number, reduced mod 4096 at the access (R120). -/
def State.indexed (s : State) (k : Nat) : Nat := s.i.toNat + k

/-- The source of SHR and SHL: `V[x]` under `SHIFT_QUIRK`, else `V[y]` (R109, R111). -/
def State.shiftSource (s : State) (x y : RegIdx) : Byte :=
  if s.settings.shiftQuirk then s.getV x else s.getV y

/-- Pixel `c` of a sprite row, 0 to 7 from the left: bit `7 - c` (R134). -/
def spritePixel (row : Byte) (c : Nat) : Bool := row.getLsbD (7 - c)

/-- Whether sprite row `r` of a sprite at `y0` is skipped: `y0 + r` as a natural number is past the bottom edge and
`VERTICAL_WRAP` is off (R134, D12). -/
def State.rowSkipped (s : State) (y0 r : Nat) : Bool := !s.settings.verticalWrap && decide (y0 + r ≥ 32)

/-- The decimal digits of a byte, hundreds first (R124). -/
def bcdHundreds (b : Byte) : Byte := BitVec.ofNat 8 (b.toNat / 100)
/-- The tens digit (R124). -/
def bcdTens (b : Byte) : Byte := BitVec.ofNat 8 (b.toNat / 10 % 10)
/-- The ones digit (R124). -/
def bcdOnes (b : Byte) : Byte := BitVec.ofNat 8 (b.toNat % 10)

end Sys2Proof.Machine
end

