-- ==== Sys2Proof/Machine/Alu.lean ====
section
/-! DEFINITION. Register load, logic, arithmetic, shifts and random numbers (42_alu.md). Every operand is read before
anything is written, the result is written first and the flag last (R100, D9). -/

namespace Sys2Proof.Machine

/-- A result for `V[x]` and then a flag for `VF` (R100). -/
def State.setResultFlag (s : State) (x : RegIdx) (result : Byte) (flag : Bool) : State :=
  (s.setV x result).setVF flag

/-- LDB (R101). -/
def execLdb (x : RegIdx) (kk : Byte) (s : State) : Result := .next (s.setV x kk)

/-- ADDB (R102): no flag. -/
def execAddb (x : RegIdx) (kk : Byte) (s : State) : Result := .next (s.setV x (s.getV x + kk))

/-- LDR (R103). -/
def execLdr (x y : RegIdx) (s : State) : Result := .next (s.setV x (s.getV y))

/-- OR (R104): no flag (D24). -/
def execOr (x y : RegIdx) (s : State) : Result := .next (s.setV x (s.getV x ||| s.getV y))

/-- AND (R105): no flag (D24). -/
def execAnd (x y : RegIdx) (s : State) : Result := .next (s.setV x (s.getV x &&& s.getV y))

/-- XOR (R106): no flag (D24). -/
def execXor (x y : RegIdx) (s : State) : Result := .next (s.setV x (s.getV x ^^^ s.getV y))

/-- ADDR (R107). -/
def execAddr (x y : RegIdx) (s : State) : Result :=
  .next (s.setResultFlag x (s.getV x + s.getV y) (carryOut (s.getV x) (s.getV y)))

/-- SUB (R108). -/
def execSub (x y : RegIdx) (s : State) : Result :=
  .next (s.setResultFlag x (s.getV x - s.getV y) (noBorrow (s.getV x) (s.getV y)))

/-- SUBN (R110). -/
def execSubn (x y : RegIdx) (s : State) : Result :=
  .next (s.setResultFlag x (s.getV y - s.getV x) (noBorrow (s.getV y) (s.getV x)))

/-- SHR (R109). -/
def execShr (x y : RegIdx) (s : State) : Result :=
  .next (s.setResultFlag x (s.shiftSource x y >>> 1) (shiftedOutRight (s.shiftSource x y)))

/-- SHL (R111). -/
def execShl (x y : RegIdx) (s : State) : Result :=
  .next (s.setResultFlag x (s.shiftSource x y <<< 1) (shiftedOutLeft (s.shiftSource x y)))

/-- RND (R112): the generator advances once whatever `kk` is. -/
def execRnd (x : RegIdx) (kk : Byte) (s : State) : Result :=
  .next (s.rngNext.1.setV x (s.rngNext.2 &&& kk))

end Sys2Proof.Machine
end

