-- ==== Sys2Proof/Machine/Display.lean ====
section
/-! DEFINITION. CLS and DRW (44_display.md). -/

namespace Sys2Proof.Machine

/-- CLS (R133). -/
def execCls (s : State) : Result := .next s.displayClear

/-- The first `k` pixels of a sprite row drawn from column `x0` on display row `yy`, left to right, with whether a lit
pixel was erased (R134). `set_pixel` reduces both coordinates. -/
def State.drawRow (s : State) (x0 yy : Nat) (row : Byte) : Nat → State × Bool
  | 0 => (s, false)
  | k + 1 =>
    let p := s.drawRow x0 yy row k
    let q := p.1.setPixel (x0 + k) yy (spritePixel row k)
    (q.1, p.2 || q.2)

/-- The first `k` rows of a sprite at `(x0, y0)`, top to bottom, with whether a lit pixel was erased (R134). Row `r` is
read from `I + r`; a skipped row is not read. -/
def State.drawSprite (s : State) (x0 y0 : Nat) : Nat → State × Bool
  | 0 => (s, false)
  | k + 1 =>
    let p := s.drawSprite x0 y0 k
    if s.rowSkipped y0 k then p
    else
      let q := p.1.drawRow x0 (y0 + k) (s.readByte (s.indexed k)) 8
      (q.1, p.2 || q.2)

/-- DRW (R134): the coordinates are read once, before `VF` is written; `VF` is always written, last (D13). -/
def execDrw (x y : RegIdx) (n : BitVec 4) (s : State) : Result :=
  let p := s.drawSprite (s.getV x).toNat (s.getV y).toNat n.toNat
  .next (p.1.setVF p.2)

end Sys2Proof.Machine
end

