-- ==== Sys2Proof/Machine/Flow.lean ====
section
/-! DEFINITION. Control transfer (41_flow.md). On entry to a meaning `pc` is `addr + 2` (R90). -/

namespace Sys2Proof.Machine

/-- RET (R91). Under `STACK_POLICY = fault` an empty stack raises `StackUnderflow` (R162). -/
def execRet (s : State) : Result :=
  if s.settings.stackPolicy = .fault ∧ s.sp = 0 then .next (s.raise .stackUnderflow (encode .ret))
  else .next s.popPc

/-- JP (R92). -/
def execJp (nnn : Addr12) (s : State) : Result := .next (s.setPc (zext16 nnn))

/-- CALL (R93). Under `STACK_POLICY = fault` a full stack raises `StackOverflow` (R161). -/
def execCall (nnn : Addr12) (s : State) : Result :=
  if s.settings.stackPolicy = .fault ∧ s.sp = 16 then .next (s.raise .stackOverflow (encode (.call nnn)))
  else .next (s.pushPc.setPc (zext16 nnn))

/-- SEB (R94). -/
def execSeb (x : RegIdx) (kk : Byte) (s : State) : Result := .next (s.skipIf (s.getV x == kk))

/-- SNEB (R95). -/
def execSneb (x : RegIdx) (kk : Byte) (s : State) : Result := .next (s.skipIf (s.getV x != kk))

/-- SER (R96). -/
def execSer (x y : RegIdx) (s : State) : Result := .next (s.skipIf (s.getV x == s.getV y))

/-- SNER (R97). -/
def execSner (x y : RegIdx) (s : State) : Result := .next (s.skipIf (s.getV x != s.getV y))

/-- JPV0 (R98): the register is always `V0` (D24), and the sum is not reduced to 12 bits. -/
def execJpv0 (nnn : Addr12) (s : State) : Result :=
  .next (s.setPc (zext16 nnn + (s.getV 0).setWidth 16))

end Sys2Proof.Machine
end

