-- ==== Sys2Proof/Machine/Index.lean ====
section
/-! DEFINITION. The address register, loads and stores (43_index_memory.md). -/

namespace Sys2Proof.Machine

/-- LDA (R121). -/
def execLda (nnn : Addr12) (s : State) : Result := .next (s.setI (zext16 nnn))

/-- ADDA (R122): `VF` is written, with 1, only on overflow and only under the quirk (D10). -/
def execAdda (x : RegIdx) (s : State) : Result :=
  if s.settings.addressOverflowQuirk && addressOverflow s.i (s.getV x) then
    .next ((s.setI (s.i + (s.getV x).setWidth 16)).setVF true)
  else .next (s.setI (s.i + (s.getV x).setWidth 16))

/-- LDF (R123): the digit is the low nibble (D14). -/
def execLdf (x : RegIdx) (s : State) : Result :=
  .next (s.setI (BitVec.ofNat 16 (glyphAddress s.settings.fontBase (lowNibble (s.getV x)))))

/-- BCD (R124): three digits at `I`, `I + 1`, `I + 2`. -/
def execBcd (x : RegIdx) (s : State) : Result :=
  .next (((s.writeByte (s.indexed 0) (bcdHundreds (s.getV x))).writeByte (s.indexed 1) (bcdTens (s.getV x))).writeByte
    (s.indexed 2) (bcdOnes (s.getV x)))

/-- `V[0]` to `V[k - 1]` stored at `I`, `I + 1`, ..., in ascending order (R125). -/
def State.storeBlock (s : State) : Nat → State
  | 0 => s
  | k + 1 => (s.storeBlock k).writeByte (s.indexed k) (s.getV (BitVec.ofNat 4 k))

/-- `V[0]` to `V[k - 1]` loaded from `I`, `I + 1`, ..., in ascending order (R126). -/
def State.loadBlock (s : State) : Nat → State
  | 0 => s
  | k + 1 => (s.loadBlock k).setV (BitVec.ofNat 4 k) (s.readByte (s.indexed k))

/-- The increment of `I` by `x + 1` that `LOAD_STORE_QUIRK` asks for (R125, R126; C1, D11). -/
def State.bumpI (s : State) (x : RegIdx) : State :=
  if s.settings.loadStoreQuirk then s.setI (s.i + x.setWidth 16 + 1) else s

/-- STRR (R125). -/
def execStrr (x : RegIdx) (s : State) : Result := .next ((s.storeBlock (x.toNat + 1)).bumpI x)

/-- LDRR (R126). -/
def execLdrr (x : RegIdx) (s : State) : Result := .next ((s.loadBlock (x.toNat + 1)).bumpI x)

end Sys2Proof.Machine
end

