-- ==== Sys2Proof/Machine/KeyTimer.lean ====
section
/-! DEFINITION. Keyboard and timer instructions (45_keyboard_timers.md). -/

namespace Sys2Proof.Machine

/-- SKP (R144). -/
def execSkp (x : RegIdx) (s : State) : Result := .next (s.skipIf (s.isDown (lowNibble (s.getV x))))

/-- SKNP (R145). -/
def execSknp (x : RegIdx) (s : State) : Result := .next (s.skipIf (!s.isDown (lowNibble (s.getV x))))

/-- LDDT (R147). -/
def execLddt (x : RegIdx) (s : State) : Result := .next (s.setV x s.dt)

/-- LDKP (R146): without a key it goes back to repeat itself at the next step. -/
def execLdkp (x : RegIdx) (s : State) : Result :=
  match s.pollWait with
  | (t, none) => .next t.rewind
  | (t, some k) => .next (t.setV x (keyByte k))

/-- STDT (R148). -/
def execStdt (x : RegIdx) (s : State) : Result := .next (s.setDT (s.getV x))

/-- STST (R149): `sound_on` follows at the next `SoundTick`. -/
def execStst (x : RegIdx) (s : State) : Result := .next (s.setST (s.getV x))

end Sys2Proof.Machine
end

