-- ==== Sys2Proof/Machine/Cycle.lean ====
section
/-! DEFINITION. The CPU step: fetch, advance, decode, dispatch (40_cycle.md R80 to R88). -/

namespace Sys2Proof.Machine

/-- The word fetched at `pc` (R81). The fetch cannot fail. -/
def State.fetchWord (s : State) : Word := s.readWord s.pc.toNat

/-- The state in which the decoded instruction executes: the key levels refreshed (R85), `pc` advanced (R82). -/
def State.prepare (s : State) (levels : KeyLevels) : State := (s.setKeys levels).advance

/-- `CpuStep(levels)` (R80): a faulted machine does not step (R87); an Invalid word raises `InvalidOpcode` (R160). -/
def cpuStep (levels : KeyLevels) (s : State) : Result :=
  if s.faulted then .next s
  else
    match decode s.fetchWord with
    | .ok i => exec i (s.prepare levels)
    | .error e => .next ((s.prepare levels).raise .invalidOpcode e.word)

end Sys2Proof.Machine
end

