-- ==== Sys2Proof/WellFormed.lean ====
section
/-! DEFINITION. What must hold before a machine is constructed (00_scope.md R6, R7; 70_reset_and_hazards.md R194).

An instruction needs no check: the operands of `Instr` have exactly the widths of the fields of R62, and R63 lets
every field take any value, so every term of `Instr` is well-formed. -/

namespace Sys2Proof

/-- The frequencies are positive (D19). -/
def Settings.frequenciesOk (c : Settings) : Bool :=
  decide (0 < c.cpuHz) && decide (0 < c.delayHz) && decide (0 < c.soundHz)

/-- The seed is below `2^32` (R6, D20). -/
def Settings.seedOk (c : Settings) : Bool := decide (c.rngSeed < 4294967296)

/-- The font lies below the program (R7, D15). -/
def Settings.fontOk (c : Settings) : Bool := decide (c.fontBase + 80 ≤ 0x200)

/-- The time of reset is not negative (D19). -/
def Settings.timeOk (c : Settings) : Bool := decide (0 ≤ c.t0)

/-- The Settings a machine can be constructed from. -/
def Settings.wellFormed (c : Settings) : Bool :=
  c.frequenciesOk && c.seedOk && c.fontOk && c.timeOk

/-- A ROM fits into the memory from `0x200` (R194, D21). -/
def romFits (rom : List Byte) : Bool := decide (rom.length ≤ 3584)

end Sys2Proof
end

