-- ==== Sys2Proof/Machine/Events.lean ====
section
/-! DEFINITION. The other events, the clocks and the host loop (60_exceptions.md R171 to R181). -/

namespace Sys2Proof.Machine

/-- A timer's decrement: toward zero and never below (R173, R174). -/
def timerDown (b : Byte) : Byte := if b = 0 then 0 else b - 1

/-- `DelayTick` (R173). -/
def State.delayTick (s : State) : State := if s.faulted then s else s.setDT (timerDown s.dt)

/-- `beep(active)` with `active = sound_on and not MUTE` (R175). -/
def State.beep (s : State) : State := s.emit [.beep (s.soundOn && !s.settings.mute)]

/-- `SoundTick` (R174): the flag is sampled after the decrement (D18), and the beep is issued (R175). -/
def State.soundTick (s : State) : State :=
  if s.faulted then s
  else ((s.setST (timerDown s.st)).setSoundOn (timerDown s.st != 0)).beep

/-- `KeyEvent(k)` (R177). -/
def State.keyEvent (s : State) (k : Key) : State := if s.faulted then s else s.pushEvent k

/-- `Quit` (R178): the run ends; no state of the core changes. -/
def State.quitLoop (s : State) : State := { s with platform := { s.platform with quit := true } }

/-- The period of a clock, `P = 1 / f` (R171). -/
def period (hz : Rat) : Rat := 1 / hz

/-- `clock_tick(c, now)` (R171): the new reference point, and whether the clock was due. -/
def clockTick (ref hz now : Rat) : Rat × Bool :=
  if now - ref ≥ period hz then (ref + period hz, true) else (ref, false)

/-- The sound clock's check (R180). -/
def State.checkSound (s : State) (now : Rat) : State :=
  let q := clockTick s.clkSound s.settings.soundHz now
  if q.2 then (s.setClkSound q.1).soundTick else s.setClkSound q.1

/-- The delay clock's check (R180). -/
def State.checkDelay (s : State) (now : Rat) : State :=
  let q := clockTick s.clkDelay s.settings.delayHz now
  if q.2 then (s.setClkDelay q.1).delayTick else s.setClkDelay q.1

/-- The lit pixels of a row, left to right, as calls of the Platform. -/
def rowCalls (s : State) (y : Nat) : List PlatformCall :=
  ((List.range 64).filter (fun x => s.pixel x y)).map (fun x => .drawPixel x y)

/-- A redraw (R181): `clear()`, `draw_pixel` for every lit pixel, `present()`. DESIGN CHOICE (unsafe, log 8): the rows
from top to bottom and each from left to right; the spec gives no order. -/
def redrawCalls (s : State) : List PlatformCall :=
  [.clear] ++ (List.range 32).flatMap (rowCalls s) ++ [.present]

/-- The end of an iteration that made a CPU step (R180): on a fault the loop stops, else a dirty display is consumed
and redrawn. -/
def State.afterStep (s : State) : State :=
  if s.faulted then s
  else if s.consumeDirty.2 then s.consumeDirty.1.emit (redrawCalls s) else s.consumeDirty.1

/-- The CPU clock's check (R180). -/
def checkCpu (now : Rat) (levels : KeyLevels) (s : State) : Result :=
  let q := clockTick s.clkCpu s.settings.cpuHz now
  if q.2 then
    match cpuStep levels (s.setClkCpu q.1) with
    | .next t => .next t.afterStep
    | .fault r => .fault r
    | .refused r => .refused r
  else .next (s.setClkCpu q.1)

/-- One iteration of the host loop by what `poll_event` answered (R180); the due clocks are served in the order sound,
delay, CPU (R167). Settings that no machine is constructed with are refused (D19, log 20). -/
def pollStep (p : Poll) (s : State) : Result :=
  match p with
  | .quit => .next s.quitLoop
  | .keyPress k => .next (s.keyEvent k)
  | .idle now levels =>
    if s.settings.wellFormed then checkCpu now levels ((s.checkSound now).checkDelay now)
    else .refused .settingsRefused

/-- An atomic event (00_scope.md R9). -/
def eventStep (e : Event) (s : State) : Result :=
  match e with
  | .cpuStep levels => cpuStep levels s
  | .delayTick => .next s.delayTick
  | .soundTick => .next s.soundTick
  | .keyEvent k => .next (s.keyEvent k)
  | .quit => .next s.quitLoop

/-- The inputs still to be served. -/
def State.setInbox (s : State) (inputs : List Input) : State :=
  { s with platform := { s.platform with inbox := inputs } }

/-- Whether the run is over: by a fault (R163) or by `Quit` (R178). -/
def State.over (s : State) : Bool := s.faulted || s.platform.quit

/-- One step of the machine: a run that is over does not go on; else the oldest input is served, and with none to serve
the CPU steps with the key levels as they are (log 4). -/
def runInput (s : State) : Result :=
  if s.over then .next s
  else
    match s.platform.inbox with
    | [] => cpuStep s.keys s
    | .event e :: rest => eventStep e (s.setInbox rest)
    | .poll p :: rest => pollStep p (s.setInbox rest)

/-- The state with an instruction word where the next step fetches it, and a run in which the next step is a CPU step:
no input before it, not over (log 25). -/
def State.placeWord (s : State) (w : Word) : State :=
  { (s.writeBytes s.pc.toNat (bytesOfWord w)) with
    fault := none, platform := { s.platform with inbox := [], quit := false } }

end Sys2Proof.Machine
end

