-- ==== Sys2Proof/Machine/Step.lean ====
section
/-! DEFINITION. The step of the machine, and the placing of an instruction where it is fetched next. -/

namespace Sys2Proof.Machine

/-- One step: one input of the host loop, or one CPU step when there is none (60_exceptions.md R176 to R180). -/
def step (s : State) : Host.Outcome State Fault Refusal := runInput s

/-- The state with the instruction whose bits are `w`, numbered as the opcode table numbers them, where `step` fetches
its next instruction. Every instruction has one 16-bit word; bits from `nbits` up are 0. -/
def State.withFetchWord (s : State) (nbits w : Nat) : State := s.placeWord (BitVec.ofNat 16 (w % 2 ^ nbits))

end Sys2Proof.Machine
end

