-- ==== Sys2Proof/Machine/Boot.lean ====
section
/-! DEFINITION. Reset is the construction of the machine (70_reset_and_hazards.md R190 to R194). -/

namespace Sys2Proof.Machine

/-- Why a machine is not constructed. -/
inductive BootRefusal where
  /-- the Settings fail their check (R6, R7, D19) -/
  | badSettings
  /-- the ROM is longer than 3584 bytes: neither truncated nor wrapped (R194, D21) -/
  | romTooLong
  deriving DecidableEq, Repr

/-- Construction from the Settings and a ROM, which is loaded verbatim at `0x200` (R190, R192). -/
def State.construct (c : Settings) (rom : List Byte) : Except BootRefusal State :=
  if !c.wellFormed then .error .badSettings
  else if !romFits rom then .error .romTooLong
  else .ok ((State.init c).writeBytes 0x200 rom)

end Sys2Proof.Machine
end

