-- ==== Sys2Proof/Safety.lean ====
section
/-! DEFINITION. The terms of the claims: a safe run, the invariant of the machine, and frames (what is unchanged). -/

namespace Sys2Proof.Machine

/-- A safe run has met no fatal condition (60_exceptions.md R160 to R163). -/
abbrev State.Safe (s : State) : Prop := s.faulted = false

/-! ### The invariant -/

/-- Memory keeps its canonical form. -/
abbrev State.MemOk (s : State) : Prop := Memory.wf s.settings.fontBase s.mem

/-- A press is pending only while the latch is armed (10_state.md R25). -/
abbrev State.LatchOk (s : State) : Prop := s.pending ≠ none → s.waiting = true

/-- `SP` never exceeds 16 under `STACK_POLICY = fault` (R14). -/
abbrev State.StackOk (s : State) : Prop := s.settings.stackPolicy = .fault → s.sp.toNat ≤ 16

/-- The generator holds its seed or a value from 0 to `2^31 - 2` (R26). -/
abbrev State.RngOk (s : State) : Prop := s.rng = s.settings.rngSeed ∨ s.rng ≤ 2147483646

/-- A reference point is `T0` plus a whole number of periods (R171). -/
def OnGrid (t0 hz ref : Rat) : Prop := ∃ n : Nat, ref = t0 + n * period hz

/-- The three reference points are (R27, R171). -/
def State.ClocksOk (s : State) : Prop :=
  OnGrid s.settings.t0 s.settings.cpuHz s.clkCpu ∧ OnGrid s.settings.t0 s.settings.delayHz s.clkDelay ∧
    OnGrid s.settings.t0 s.settings.soundHz s.clkSound

/-- What holds of every state a run reaches. -/
structure State.Inv (s : State) : Prop where
  settings : s.settings.wellFormed = true
  mem : s.MemOk
  latch : s.LatchOk
  stack : s.StackOk
  rng : s.RngOk
  clocks : s.ClocksOk

/-! ### Frames -/

/-- The parts of the state a claim can say are unchanged. -/
inductive Field where
  | v | i | pc | sp | stack | dt | st | fault | mem | fb | dirty | keys | waiting | pending | rng
  | clkCpu | clkDelay | clkSound | soundOn | settings | platform
  deriving DecidableEq, Repr

/-- The part is the same in both states; memory is compared through the read of one byte. -/
def Field.Same (s t : State) : Field → Prop
  | .v => ∀ r, t.getV r = s.getV r
  | .i => t.i = s.i
  | .pc => t.pc = s.pc
  | .sp => t.sp = s.sp
  | .stack => t.stack = s.stack
  | .dt => t.dt = s.dt
  | .st => t.st = s.st
  | .fault => t.fault = s.fault
  | .mem => ∀ a, t.readByte a = s.readByte a
  | .fb => t.fb = s.fb
  | .dirty => t.dirty = s.dirty
  | .keys => t.keys = s.keys
  | .waiting => t.waiting = s.waiting
  | .pending => t.pending = s.pending
  | .rng => t.rng = s.rng
  | .clkCpu => t.clkCpu = s.clkCpu
  | .clkDelay => t.clkDelay = s.clkDelay
  | .clkSound => t.clkSound = s.clkSound
  | .soundOn => t.soundOn = s.soundOn
  | .settings => t.settings = s.settings
  | .platform => t.platform = s.platform

/-- From `s` to `t` nothing changed but, possibly, the parts named. -/
def Frame (changed : List Field) (s t : State) : Prop := ∀ f, f ∉ changed → f.Same s t

/-- From `s` to `t` no general register changed but, possibly, the ones named. -/
def SameV (changed : List RegIdx) (s t : State) : Prop := ∀ r, r ∉ changed → t.getV r = s.getV r

/-- From `s` to `t` no byte of memory changed but, possibly, those at the `k` addresses from `a` on, each mod 4096. -/
def SameMemOutside (a k : Nat) (s t : State) : Prop :=
  ∀ b, (∀ j, j < k → b % 4096 ≠ (a + j) % 4096) → t.readByte b = s.readByte b

/-- The parts each instruction may write when it executes, after the advance of `pc` (10_state.md R11 to R26;
20_memory.md R56). -/
def writes : Instr → List Field
  | .cls => [.fb, .dirty]
  | .ret => [.sp, .pc, .fault]
  | .call _ => [.sp, .stack, .pc, .fault]
  | .jp _ | .jpv0 _ => [.pc]
  | .seb _ _ | .sneb _ _ | .ser _ _ | .sner _ _ | .skp _ | .sknp _ => [.pc]
  | .ldb _ _ | .addb _ _ | .ldr _ _ | .or _ _ | .and _ _ | .xor _ _ => [.v]
  | .addr _ _ | .sub _ _ | .subn _ _ | .shr _ _ | .shl _ _ => [.v]
  | .rnd _ _ => [.v, .rng]
  | .lda _ | .ldf _ => [.i]
  | .adda _ => [.i, .v]
  | .drw _ _ _ => [.v, .fb, .dirty]
  | .lddt _ => [.v]
  | .ldkp _ => [.v, .pc, .waiting, .pending]
  | .stdt _ => [.dt]
  | .stst _ => [.st]
  | .bcd _ => [.mem]
  | .strr _ => [.mem, .i]
  | .ldrr _ => [.v, .i]

/-- The general registers each instruction may write (R10, R11). -/
def writesV : Instr → List RegIdx
  | .ldb x _ | .addb x _ | .ldr x _ | .or x _ | .and x _ | .xor x _ | .rnd x _ | .lddt x | .ldkp x => [x]
  | .addr x _ | .sub x _ | .subn x _ | .shr x _ | .shl x _ => [x, 15]
  | .adda _ | .drw _ _ _ => [15]
  | .ldrr x => (List.range (x.toNat + 1)).map (BitVec.ofNat 4)
  | .cls | .ret | .jp _ | .call _ | .jpv0 _ | .seb _ _ | .sneb _ _ | .ser _ _ | .sner _ _ | .skp _ | .sknp _ => []
  | .lda _ | .ldf _ | .stdt _ | .stst _ | .bcd _ | .strr _ => []

/-- How many bytes each instruction stores, from the address in `I` on (20_memory.md R56). -/
def storedBytes : Instr → Nat
  | .bcd _ => 3
  | .strr x => x.toNat + 1
  | .cls | .ret | .jp _ | .call _ | .jpv0 _ | .seb _ _ | .sneb _ _ | .ser _ _ | .sner _ _ | .skp _ | .sknp _ => 0
  | .ldb _ _ | .addb _ _ | .ldr _ _ | .or _ _ | .and _ _ | .xor _ _ | .addr _ _ | .sub _ _ | .subn _ _ => 0
  | .shr _ _ | .shl _ _ | .rnd _ _ | .lda _ | .ldf _ | .adda _ | .drw _ _ _ | .lddt _ | .ldkp _ => 0
  | .stdt _ | .stst _ | .ldrr _ => 0

/-! ### The sprite on the display -/

/-- Whether a sprite of `n` rows read from `I` and drawn at `(x0, y0)` has a 1 bit on the display cell `(x, y)`
(44_display.md R134): row `r` is drawn unless `VERTICAL_WRAP` is off and `y0 + r` is 32 or more, and its column `c` is bit
`7 - c` of the byte at `I + r`. -/
def State.spriteCovers (s : State) (x0 y0 n x y : Nat) : Bool :=
  (List.range n).any fun r => (s.settings.verticalWrap || decide (y0 + r < 32)) && (y0 + r) % 32 == y &&
    (List.range 8).any fun c => (x0 + c) % 64 == x && (s.readByte (s.i.toNat + r)).getLsbD (7 - c)

/-- The state with what no instruction reads replaced: the dirty flag, the sound flag and the clocks (R30). -/
def State.withHidden (s : State) (dirty soundOn : Bool) (cpu delay sound : Rat) : State :=
  { s with dirty := dirty, soundOn := soundOn, clkCpu := cpu, clkDelay := delay, clkSound := sound }

end Sys2Proof.Machine
end

