-- ==== Sys2Proof/Certificates/Slice0/Obligations.lean ====
section
/-! DEFINITION. The statements for the provers. In every statement about `exec`, `s` is the state in which the decoded
instruction executes: the key levels refreshed and `pc` already advanced to `addr + 2` (40_cycle.md R80, R82). What a
statement says is unchanged it says by `SameV` (general registers), `SameMemOutside` (bytes of memory) and `Frame` (all
the other parts of the state), defined in Sys2Proof/Safety.lean. -/

open Sys2Proof Sys2Proof.Machine

/-! ### Encoding and decoding -/

/-- Words written out from the patterns of 30_encoding.md R63 decode to what they stand for, and words that match no
row are Invalid (95_test_vectors.md 2.1). -/
def Obligations.WordsWrittenOutDecode : Prop :=
  decode 0x00E0#16 = .ok .cls ∧ decode 0x00EE#16 = .ok .ret ∧ decode 0x2ABC#16 = .ok (.call 0xABC#12) ∧
  decode 0x3F00#16 = .ok (.seb 0xF#4 0x00#8) ∧ decode 0x6A55#16 = .ok (.ldb 0xA#4 0x55#8) ∧
  decode 0x8126#16 = .ok (.shr 1#4 2#4) ∧ decode 0xA123#16 = .ok (.lda 0x123#12) ∧
  decode 0xC10F#16 = .ok (.rnd 1#4 0x0F#8) ∧ decode 0xD011#16 = .ok (.drw 0#4 1#4 1#4) ∧
  decode 0xE19E#16 = .ok (.skp 1#4) ∧ decode 0xF10A#16 = .ok (.ldkp 1#4) ∧ decode 0xF155#16 = .ok (.strr 1#4) ∧
  decode 0x0123#16 = .error ⟨0x0123#16⟩ ∧ decode 0x5121#16 = .error ⟨0x5121#16⟩ ∧
  decode 0x812F#16 = .error ⟨0x812F#16⟩ ∧ decode 0xFFFF#16 = .error ⟨0xFFFF#16⟩

/-- Decoding the encoding of any instruction gives it back, as a word and as bytes in front of any others. -/
def Obligations.DecodeInvertsEncode : Prop :=
  ∀ i : Instr, decode (encode i) = .ok i ∧ ∀ rest, decodeBytes (encodeBytes i ++ rest) = .ok (i, rest)

/-- R68: a decoded word re-encodes to itself, an Invalid verdict carries its word, and decoding is injective. -/
def Obligations.EncodeInvertsDecode : Prop :=
  (∀ w i, decode w = .ok i → encode i = w) ∧ (∀ w e, decode w = .error e → e.word = w) ∧
    ∀ w w', decode w = decode w' → w = w'

/-- The decoder and the opcode table of R63 agree: a row accepts exactly the words that decode to its instruction, a
word is Invalid exactly when no row accepts it, and no two rows overlap. -/
def Obligations.DecoderAgreesWithOpcodeTable : Prop :=
  (∀ w, ∀ r ∈ opcodeTable, r.accepts w = true ↔ ∃ i, decode w = .ok i ∧ mnemonic i = r.mnemonic) ∧
  (∀ w, (∃ e, decode w = .error e) ↔ ∀ r ∈ opcodeTable, r.accepts w = false) ∧
  ∀ w, ∀ r ∈ opcodeTable, ∀ r' ∈ opcodeTable, r.accepts w = true → r'.accepts w = true → r = r'

/-- R65: the Invalid words are exactly those of its table, family by family. -/
def Obligations.InvalidWordsAreThoseListed : Prop :=
  ∀ w : Word, (∃ e, decode w = .error e) ↔
    (opField w = 0x0 ∧ w ≠ 0x00E0 ∧ w ≠ 0x00EE) ∨ (opField w = 0x5 ∧ nField w ≠ 0) ∨
    (opField w = 0x8 ∧ nField w ∈ ([0x8, 0x9, 0xA, 0xB, 0xC, 0xD, 0xF] : List (BitVec 4))) ∨
    (opField w = 0x9 ∧ nField w ≠ 0) ∨ (opField w = 0xE ∧ kkField w ∉ ([0x9E, 0xA1] : List Byte)) ∨
    (opField w = 0xF ∧
      kkField w ∉ ([0x07, 0x0A, 0x15, 0x18, 0x1E, 0x29, 0x33, 0x55, 0x65] : List Byte))

/-! ### The cycle and its faults -/

/-- A step whose turn is a CPU step runs the decoded instruction in the prepared state: the key levels refreshed, `pc`
advanced by 2, nothing else changed (R80 to R85). With no input waiting the levels are those held, and the inputs are
served oldest first (the model's choice, log 4): an atomic event by `eventStep`, an iteration of the host loop by
`pollStep` (log 5), in the state with that input, and nothing else, taken off. -/
def Obligations.StepRunsDecodedInstruction : Prop :=
  (∀ (s : State) (i : Instr), s.over = false → decode s.fetchWord = .ok i →
    (s.platform.inbox = [] → step s = exec i (s.prepare s.keys)) ∧
    ∀ levels rest, s.platform.inbox = .event (.cpuStep levels) :: rest →
      step s = exec i ((s.setInbox rest).prepare levels)) ∧
  (∀ s : State, s.over = false →
    (∀ e rest, s.platform.inbox = .event e :: rest → step s = eventStep e (s.setInbox rest)) ∧
    ∀ p rest, s.platform.inbox = .poll p :: rest → step s = pollStep p (s.setInbox rest)) ∧
  (∀ (s : State) rest, (s.setInbox rest).platform = ⟨rest, s.platform.quit, s.platform.calls⟩ ∧
    Frame [.platform] s (s.setInbox rest)) ∧
  ∀ (s : State) levels, (s.prepare levels).keys = levels ∧ (s.prepare levels).pc = s.pc + 2 ∧
    Frame [.keys, .pc] s (s.prepare levels)

/-- The fetched word is big-endian, and each of its two byte addresses is reduced mod 4096 by itself (R44, R81; the
reduction of `pc` is the spec's decision D5). -/
def Obligations.FetchIsBigEndianMod4096 : Prop :=
  ∀ s : State,
    s.fetchWord.toNat = 256 * (s.readByte (s.pc.toNat % 4096)).toNat + (s.readByte ((s.pc.toNat + 1) % 4096)).toNat

/-- An instruction placed where the next step fetches it is the one the next step runs, wherever `pc` points. -/
def Obligations.PlacedInstructionRuns : Prop :=
  ∀ (s : State) (i : Instr),
    step (s.withFetchWord 16 (encode i).toNat) =
      exec i ((s.withFetchWord 16 (encode i).toNat).prepare s.keys)

/-- R160: a word that decodes to Invalid raises `InvalidOpcode` with the `pc` of the fetch and the word, after the
advance. That the machine then steps to itself is the spec's decision D22 (R163; R87 would also allow no transition) in
the form the model chose (log 6). -/
def Obligations.InvalidWordIsFatal : Prop :=
  ∀ (s : State) (levels : KeyLevels) (e : Invalid), s.faulted = false → decode s.fetchWord = .error e →
    ∃ t, cpuStep levels s = .next t ∧ t.fault = some ⟨.invalidOpcode, s.pc, s.fetchWord⟩ ∧ t.pc = s.pc + 2 ∧
      step t = .next t

/-- Faults are precise (R163; the spec's decision D22): a CPU step that faults records the address and the word it
fetched, and changes nothing but `keys`, `pc` and `fault`. -/
def Obligations.FaultsArePrecise : Prop :=
  ∀ (s t : State) (levels : KeyLevels), s.faulted = false → cpuStep levels s = .next t → t.faulted = true →
    (∃ k, t.fault = some ⟨k, s.pc, s.fetchWord⟩) ∧ t.keys = levels ∧ t.pc = s.pc + 2 ∧
      Frame [.keys, .pc, .fault] s t

/-- The three fatal conditions are the only ones (R160 to R162, R165), and each is met exactly where its rule says (the
two of the stack under the default `STACK_POLICY = fault`, the spec's decision D7). -/
def Obligations.OnlyThreeFatalConditions : Prop :=
  ∀ (s t : State) (levels : KeyLevels), s.faulted = false → cpuStep levels s = .next t →
    (t.faulted = true ↔
      (∃ e, decode s.fetchWord = .error e) ∨
      (s.settings.stackPolicy = .fault ∧ s.sp = 16 ∧ ∃ nnn, decode s.fetchWord = .ok (.call nnn)) ∨
      (s.settings.stackPolicy = .fault ∧ s.sp = 0 ∧ decode s.fetchWord = .ok .ret))

/-- A faulted machine changes no more: no step and none of the events `CpuStep`, `DelayTick`, `SoundTick`, `KeyEvent`
changes anything (R87, R163; the spec's decision D22). -/
def Obligations.FaultedMachineIsFrozen : Prop :=
  ∀ s : State, s.faulted = true →
    step s = .next s ∧ (∀ levels, eventStep (.cpuStep levels) s = .next s) ∧ eventStep .delayTick s = .next s ∧
      eventStep .soundTick s = .next s ∧ ∀ k, eventStep (.keyEvent k) s = .next s

/-! ### Control transfer -/

/-- R92: JP. -/
def Obligations.JumpSetsPc : Prop :=
  ∀ (nnn : Addr12) (s : State), decode (formA 0x1#4 nnn) = .ok (.jp nnn) ∧
    ∃ t, exec (.jp nnn) s = .next t ∧ t.pc.toNat = nnn.toNat ∧ Frame [.pc] s t

/-- R98: JPV0 adds `V0` (the spec's decision D24) and does not reduce the sum to 12 bits. -/
def Obligations.JumpPlusV0 : Prop :=
  ∀ (nnn : Addr12) (s : State),
    ∃ t, exec (.jpv0 nnn) s = .next t ∧ t.pc.toNat = nnn.toNat + (s.getV 0).toNat ∧ Frame [.pc] s t

/-- R94 to R97: the conditional skips SEB, SNEB, SER, SNER pass over one instruction exactly when their condition
holds, and the other selectors of families `5` and `9` are Invalid. -/
def Obligations.ConditionalSkips : Prop :=
  (∀ (x : RegIdx) (kk : Byte) (s : State), decode (formXK 0x3#4 x kk) = .ok (.seb x kk) ∧
    ∃ t, exec (.seb x kk) s = .next t ∧ t.pc = (if s.getV x = kk then s.pc + 2 else s.pc) ∧ Frame [.pc] s t) ∧
  (∀ (x : RegIdx) (kk : Byte) (s : State), decode (formXK 0x4#4 x kk) = .ok (.sneb x kk) ∧
    ∃ t, exec (.sneb x kk) s = .next t ∧ t.pc = (if s.getV x = kk then s.pc else s.pc + 2) ∧ Frame [.pc] s t) ∧
  (∀ (x y : RegIdx) (s : State), decode (formXYN 0x5#4 x y 0) = .ok (.ser x y) ∧
    ∃ t, exec (.ser x y) s = .next t ∧ t.pc = (if s.getV x = s.getV y then s.pc + 2 else s.pc) ∧ Frame [.pc] s t) ∧
  (∀ (x y : RegIdx) (s : State), decode (formXYN 0x9#4 x y 0) = .ok (.sner x y) ∧
    ∃ t, exec (.sner x y) s = .next t ∧ t.pc = (if s.getV x = s.getV y then s.pc else s.pc + 2) ∧ Frame [.pc] s t) ∧
  ∀ (x y : RegIdx) (n : BitVec 4), n ≠ 0 →
    decode (formXYN 0x5#4 x y n) = .error ⟨formXYN 0x5#4 x y n⟩ ∧
    decode (formXYN 0x9#4 x y n) = .error ⟨formXYN 0x9#4 x y n⟩

/-- R93: CALL, where it does not fault, pushes the next address and jumps (order and index: the spec's decisions D7,
D8). For `SP` above 16 under `STACK_POLICY = fault`, which no run reaches, the spec is silent and the index mod 16 is the
model's choice (log 10). -/
def Obligations.CallPushesReturnAddress : Prop :=
  ∀ (nnn : Addr12) (s : State), s.settings.stackPolicy = .wrap ∨ s.sp ≠ 16 →
    ∃ t, exec (.call nnn) s = .next t ∧ t.pc.toNat = nnn.toNat ∧ t.sp.toNat = (s.sp.toNat + 1) % 256 ∧
      (∀ j, ∀ h : j < 16, t.stack[j] = if j = s.sp.toNat % 16 then s.pc else s.stack[j]) ∧
      Frame [.sp, .stack, .pc] s t

/-- R91: RET, where it does not fault, pops the most recent return address, and clears no entry (the spec's decisions
D7, D8). For `SP` above 16 under `STACK_POLICY = fault`, which no run reaches, the spec is silent and the index mod 16 is
the model's choice (log 10). -/
def Obligations.ReturnPopsReturnAddress : Prop :=
  ∀ s : State, s.settings.stackPolicy = .wrap ∨ s.sp ≠ 0 →
    ∃ t, exec .ret s = .next t ∧ t.sp.toNat = (s.sp.toNat + 255) % 256 ∧
      t.pc = s.stack[t.sp.toNat % 16]'(Nat.mod_lt _ (by decide)) ∧ Frame [.sp, .pc] s t

/-- R161, R162: under `STACK_POLICY = fault` (the spec's decision D7) a CALL with 16 entries and a RET with none raise
their fault and write nothing else. -/
def Obligations.StackFaults : Prop :=
  ∀ s : State, s.settings.stackPolicy = .fault →
    (s.sp = 16 → ∀ nnn, ∃ t, exec (.call nnn) s = .next t ∧
      t.fault = some ⟨.stackOverflow, s.pc - 2, formA 0x2#4 nnn⟩ ∧ Frame [.fault] s t) ∧
    (s.sp = 0 → ∃ t, exec .ret s = .next t ∧ t.fault = some ⟨.stackUnderflow, s.pc - 2, 0x00EE⟩ ∧
      Frame [.fault] s t)

/-- A RET right after a CALL comes back to the instruction after it, with the depth as before. -/
def Obligations.CallThenReturnComesBack : Prop :=
  ∀ (nnn : Addr12) (s t : State), s.StackOk → s.settings.stackPolicy = .wrap ∨ s.sp ≠ 16 →
    exec (.call nnn) s = .next t →
    ∃ u, exec .ret t = .next u ∧ u.pc = s.pc ∧ u.sp = s.sp ∧ Frame [.stack] s u

/-! ### Registers and arithmetic -/

/-- R101: LDB. -/
def Obligations.LoadByteWritesRegister : Prop :=
  ∀ (x : RegIdx) (kk : Byte) (s : State), decode (formXK 0x6#4 x kk) = .ok (.ldb x kk) ∧
    ∃ t, exec (.ldb x kk) s = .next t ∧ t.getV x = kk ∧ SameV [x] s t ∧ Frame [.v] s t

/-- R102: ADDB wraps mod 256 and writes no flag. -/
def Obligations.AddByteWrapsWithoutFlag : Prop :=
  ∀ (x : RegIdx) (kk : Byte) (s : State), decode (formXK 0x7#4 x kk) = .ok (.addb x kk) ∧
    ∃ t, exec (.addb x kk) s = .next t ∧ (t.getV x).toNat = ((s.getV x).toNat + kk.toNat) % 256 ∧
      SameV [x] s t ∧ Frame [.v] s t

/-- R103: LDR. -/
def Obligations.LoadRegisterCopies : Prop :=
  ∀ (x y : RegIdx) (s : State), decode (formXYN 0x8#4 x y 0x0#4) = .ok (.ldr x y) ∧
    ∃ t, exec (.ldr x y) s = .next t ∧ t.getV x = s.getV y ∧ SameV [x] s t ∧ Frame [.v] s t

/-- R104 to R106: OR, AND, XOR, bit by bit; `VF` is not written (the spec's decision D24). -/
def Obligations.BitwiseLogic : Prop :=
  ∀ (x y : RegIdx) (s : State),
    (∃ t, exec (.or x y) s = .next t ∧
      (∀ k, (t.getV x).getLsbD k = ((s.getV x).getLsbD k || (s.getV y).getLsbD k)) ∧ SameV [x] s t ∧ Frame [.v] s t) ∧
    (∃ t, exec (.and x y) s = .next t ∧
      (∀ k, (t.getV x).getLsbD k = ((s.getV x).getLsbD k && (s.getV y).getLsbD k)) ∧ SameV [x] s t ∧ Frame [.v] s t) ∧
    ∃ t, exec (.xor x y) s = .next t ∧
      (∀ k, (t.getV x).getLsbD k = ((s.getV x).getLsbD k ^^ (s.getV y).getLsbD k)) ∧ SameV [x] s t ∧ Frame [.v] s t

/-- R107: ADDR; with `x = 15` the flag is what remains (R100, the spec's decision D9). -/
def Obligations.AddRegistersSetsCarry : Prop :=
  ∀ (x y : RegIdx) (s : State), ∃ t, exec (.addr x y) s = .next t ∧
    (x ≠ 15 → (t.getV x).toNat = ((s.getV x).toNat + (s.getV y).toNat) % 256) ∧
    t.getV 15 = (if (s.getV x).toNat + (s.getV y).toNat > 255 then 1 else 0) ∧ SameV [x, 15] s t ∧ Frame [.v] s t

/-- R108, R110: SUB and SUBN; the flag is 1 exactly when there is no borrow, and with `x = 15` it is what remains (R100,
the spec's decision D9). -/
def Obligations.SubtractSetsNoBorrow : Prop :=
  ∀ (x y : RegIdx) (s : State),
    (∃ t, exec (.sub x y) s = .next t ∧
      (x ≠ 15 → (t.getV x).toNat = ((s.getV x).toNat + 256 - (s.getV y).toNat) % 256) ∧
      t.getV 15 = (if (s.getV x).toNat ≥ (s.getV y).toNat then 1 else 0) ∧ SameV [x, 15] s t ∧ Frame [.v] s t) ∧
    ∃ t, exec (.subn x y) s = .next t ∧
      (x ≠ 15 → (t.getV x).toNat = ((s.getV y).toNat + 256 - (s.getV x).toNat) % 256) ∧
      t.getV 15 = (if (s.getV y).toNat ≥ (s.getV x).toNat then 1 else 0) ∧ SameV [x, 15] s t ∧ Frame [.v] s t

/-- R109, R111: SHR and SHL by one; the quirk selects the source register only, and `V[y]` is not changed (R100, the
spec's decisions D9, D25). -/
def Obligations.ShiftsByOne : Prop :=
  ∀ (x y : RegIdx) (s : State) (src : Nat),
    src = (if s.settings.shiftQuirk then (s.getV x).toNat else (s.getV y).toNat) →
    (∃ t, exec (.shr x y) s = .next t ∧ (x ≠ 15 → (t.getV x).toNat = src / 2) ∧
      (t.getV 15).toNat = src % 2 ∧ SameV [x, 15] s t ∧ Frame [.v] s t) ∧
    ∃ t, exec (.shl x y) s = .next t ∧ (x ≠ 15 → (t.getV x).toNat = 2 * src % 256) ∧
      (t.getV 15).toNat = src / 128 ∧ SameV [x, 15] s t ∧ Frame [.v] s t

/-- R112, R114: RND advances the generator once and writes its new low byte under the mask (exact arithmetic: the spec's
decision D20). -/
def Obligations.RandomByteUnderMask : Prop :=
  ∀ (x : RegIdx) (kk : Byte) (s : State), ∃ t, exec (.rnd x kk) s = .next t ∧
    t.rng = (48271 * s.rng + 1) % 2147483647 ∧ t.getV x = BitVec.ofNat 8 (t.rng % 256) &&& kk ∧
    SameV [x] s t ∧ Frame [.v, .rng] s t

/-- R115: the first six states from seed 0. -/
def Obligations.GeneratorFirstStates : Prop :=
  (List.range 6).map (fun k => rngStep^[k + 1] 0) = [1, 48272, 182654066, 1474048952, 1241285942, 1172471336]

/-! ### The address register and memory -/

/-- R121: LDA. -/
def Obligations.LoadAddressWritesI : Prop :=
  ∀ (nnn : Addr12) (s : State), decode (formA 0xA#4 nnn) = .ok (.lda nnn) ∧
    ∃ t, exec (.lda nnn) s = .next t ∧ t.i.toNat = nnn.toNat ∧ Frame [.i] s t

/-- R122: ADDA wraps at 16 bits; `VF` is set to 1 under the quirk on overflow past `0xFFFF` and is otherwise untouched
(the spec's decisions D6, D10). -/
def Obligations.AddToAddressRegister : Prop :=
  ∀ (x : RegIdx) (s : State), ∃ t, exec (.adda x) s = .next t ∧
    t.i.toNat = (s.i.toNat + (s.getV x).toNat) % 65536 ∧
    t.getV 15 = (if s.settings.addressOverflowQuirk = true ∧ s.i.toNat + (s.getV x).toNat > 0xFFFF then 1
      else s.getV 15) ∧
    SameV [15] s t ∧ Frame [.i, .v] s t

/-- R123, R43: LDF gives the address of the glyph of the low nibble (the spec's decisions D14, D15). -/
def Obligations.LoadGlyphAddress : Prop :=
  ∀ (x : RegIdx) (s : State), s.settings.fontOk = true → ∃ t, exec (.ldf x) s = .next t ∧
    t.i.toNat = s.settings.fontBase + 5 * ((s.getV x).toNat % 16) ∧ Frame [.i] s t

/-- R124: BCD stores the three digits at `I`, `I + 1`, `I + 2` and nothing else; `I` is not changed. -/
def Obligations.StoreDecimalDigits : Prop :=
  ∀ (x : RegIdx) (s : State), decode (formXK 0xF#4 x 0x33#8) = .ok (.bcd x) ∧
    ∃ t, exec (.bcd x) s = .next t ∧
      (t.readByte s.i.toNat).toNat = (s.getV x).toNat / 100 ∧
      (t.readByte (s.i.toNat + 1)).toNat = (s.getV x).toNat / 10 % 10 ∧
      (t.readByte (s.i.toNat + 2)).toNat = (s.getV x).toNat % 10 ∧
      SameMemOutside s.i.toNat 3 s t ∧ Frame [.mem] s t

/-- R125: STRR stores `V[0]` to `V[x]` at `I` and increments `I` only under the quirk (polarity: 90_conflicts.md C1, the
spec's decision D11). -/
def Obligations.StoreRegisterBlock : Prop :=
  ∀ (x : RegIdx) (s : State), ∃ t, exec (.strr x) s = .next t ∧
    (∀ r : RegIdx, r.toNat ≤ x.toNat → t.readByte (s.i.toNat + r.toNat) = s.getV r) ∧
    SameMemOutside s.i.toNat (x.toNat + 1) s t ∧
    t.i.toNat = (if s.settings.loadStoreQuirk then (s.i.toNat + x.toNat + 1) % 65536 else s.i.toNat) ∧
    Frame [.mem, .i] s t

/-- R126: LDRR loads `V[0]` to `V[x]` from `I`, leaves the registers above, and increments `I` only under the quirk
(polarity: 90_conflicts.md C1, the spec's decision D11). -/
def Obligations.LoadRegisterBlock : Prop :=
  ∀ (x : RegIdx) (s : State), ∃ t, exec (.ldrr x) s = .next t ∧
    (∀ r : RegIdx, t.getV r = if r.toNat ≤ x.toNat then s.readByte (s.i.toNat + r.toNat) else s.getV r) ∧
    t.i.toNat = (if s.settings.loadStoreQuirk then (s.i.toNat + x.toNat + 1) % 65536 else s.i.toNat) ∧
    Frame [.v, .i] s t

/-- A block stored and, with the registers changed in any way meanwhile, loaded back at the same `I` brings the stored
registers back. -/
def Obligations.StoredBlockLoadsBack : Prop :=
  ∀ (x : RegIdx) (s t u : State) (v : Vector Byte 16), s.settings.loadStoreQuirk = false →
    exec (.strr x) s = .next t → exec (.ldrr x) { t with v := v } = .next u →
    ∀ r : RegIdx, r.toNat ≤ x.toNat → u.getV r = s.getV r

/-! ### The display -/

/-- R133, R130: CLS puts every pixel out and marks the display dirty, whether or not a pixel was lit. -/
def Obligations.ClearDisplay : Prop :=
  decode 0x00E0#16 = .ok .cls ∧
  ∀ s : State, ∃ t, exec .cls s = .next t ∧ (∀ x y, t.pixel x y = false) ∧ t.dirty = true ∧ Frame [.fb, .dirty] s t

/-- R134, R131: DRW toggles exactly the display cells its sprite covers, sets `VF` to 1 exactly when one of them was
lit, and marks the display dirty exactly when it covers one. Sprite row `r` is the byte at `I + r`; it is drawn unless
`VERTICAL_WRAP` is off and `V[y] + r` is 32 or more; its column `c` is bit `7 - c` (the spec's decisions D12, D13,
D23). -/
def Obligations.DrawXorsSprite : Prop :=
  ∀ (x y : RegIdx) (n : BitVec 4) (s : State) (covers : Nat → Nat → Prop),
    (∀ X Y, covers X Y ↔ ∃ r c, r < n.toNat ∧ c < 8 ∧
      (s.settings.verticalWrap = true ∨ (s.getV y).toNat + r < 32) ∧
      ((s.getV y).toNat + r) % 32 = Y ∧ ((s.getV x).toNat + c) % 64 = X ∧
      (s.readByte (s.i.toNat + r)).getLsbD (7 - c) = true) →
    ∃ t, exec (.drw x y n) s = .next t ∧
      (∀ X Y, X < 64 → Y < 32 → (covers X Y → t.pixel X Y = !s.pixel X Y) ∧ (¬covers X Y → t.pixel X Y = s.pixel X Y)) ∧
      ((∃ X Y, X < 64 ∧ Y < 32 ∧ s.pixel X Y = true ∧ covers X Y) → t.getV 15 = 1) ∧
      ((¬∃ X Y, X < 64 ∧ Y < 32 ∧ s.pixel X Y = true ∧ covers X Y) → t.getV 15 = 0) ∧
      (t.dirty = true ↔ s.dirty = true ∨ ∃ X Y, X < 64 ∧ Y < 32 ∧ covers X Y) ∧
      SameV [15] s t ∧ Frame [.v, .fb, .dirty] s t

/-- R135: the same DRW again, with the coordinates unchanged, restores every pixel; it reports a collision exactly when
the first turned a pixel on, and if the sprite covers any display cell at least one of the two reports one. -/
def Obligations.DrawTwiceRestores : Prop :=
  ∀ (x y : RegIdx) (n : BitVec 4) (s t : State), exec (.drw x y n) s = .next t →
    t.getV x = s.getV x → t.getV y = s.getV y →
    ∃ u, exec (.drw x y n) t = .next u ∧ u.fb = s.fb ∧
      (u.getV 15 = 1 ↔ ∃ X Y, X < 64 ∧ Y < 32 ∧ s.pixel X Y = false ∧ t.pixel X Y = true) ∧
      ((∃ X Y, X < 64 ∧ Y < 32 ∧ s.spriteCovers (s.getV x).toNat (s.getV y).toNat n.toNat X Y = true) →
        t.getV 15 = 1 ∨ u.getV 15 = 1)

/-! ### Keyboard and timer instructions -/

/-- R144, R145: SKP and SKNP test the key of the low nibble (the spec's decision D14). -/
def Obligations.SkipOnKeyLevel : Prop :=
  ∀ (x : RegIdx) (s : State) (k : Key), k.toNat = (s.getV x).toNat % 16 →
    (∃ t, exec (.skp x) s = .next t ∧ t.pc = (if s.isDown k then s.pc + 2 else s.pc) ∧ Frame [.pc] s t) ∧
    ∃ t, exec (.sknp x) s = .next t ∧ t.pc = (if s.isDown k then s.pc else s.pc + 2) ∧ Frame [.pc] s t

/-- R146, R143: LDKP consumes a recorded press into `V[x]` and disarms; without one it goes back to repeat, arming the
latch if it was not armed. -/
def Obligations.KeyWaitArmsWaitsConsumes : Prop :=
  ∀ (x : RegIdx) (s : State),
    (s.waiting = false → ∃ t, exec (.ldkp x) s = .next t ∧ t.pc = s.pc - 2 ∧ t.waiting = true ∧ t.pending = none ∧
      Frame [.pc, .waiting, .pending] s t) ∧
    (s.waiting = true → s.pending = none → ∃ t, exec (.ldkp x) s = .next t ∧ t.pc = s.pc - 2 ∧ Frame [.pc] s t) ∧
    ∀ k, s.waiting = true → s.pending = some k → ∃ t, exec (.ldkp x) s = .next t ∧ (t.getV x).toNat = k.toNat ∧
      t.waiting = false ∧ t.pending = none ∧ SameV [x] s t ∧ Frame [.v, .waiting, .pending] s t

/-- R146: armed by one CPU step, a key press and a further CPU step end the wait, whatever the key levels. -/
def Obligations.KeyPressEndsTheWait : Prop :=
  ∀ (x : RegIdx) (s : State) (l l' : KeyLevels) (k : Key), s.over = false → s.waiting = false →
    decode s.fetchWord = .ok (.ldkp x) →
    s.platform.inbox = [.event (.cpuStep l), .event (.keyEvent k), .event (.cpuStep l')] →
    ∃ t, Sys2Proof.core.run 3 s = .next t ∧ (t.getV x).toNat = k.toNat ∧ t.pc = s.pc + 2 ∧ t.waiting = false ∧
      t.pending = none ∧ t.platform = ⟨[], s.platform.quit, s.platform.calls⟩ ∧ SameV [x] s t ∧ Frame [.v, .pc, .keys, .pending, .platform] s t

/-- R146: while no key press arrives the wait goes on for any number of CPU steps, whatever keys are held down. -/
def Obligations.HeldKeysNeverEndTheWait : Prop :=
  ∀ (x : RegIdx) (levels : List KeyLevels) (s : State), s.over = false → s.pending = none →
    decode s.fetchWord = .ok (.ldkp x) → s.platform.inbox = levels.map (fun l => .event (.cpuStep l)) →
    ∃ t, Sys2Proof.core.run levels.length s = .next t ∧ t.pending = none ∧
      t.platform = ⟨[], s.platform.quit, s.platform.calls⟩ ∧ Frame [.keys, .waiting, .platform] s t

/-- R147 (and R148, R149): LDDT copies `DT` into `V[x]`; STDT and STST copy `V[x]` into `DT` and `ST`. -/
def Obligations.TimerRegisterMoves : Prop :=
  ∀ (x : RegIdx) (s : State),
    (decode (formXK 0xF#4 x 0x07#8) = .ok (.lddt x) ∧
      ∃ t, exec (.lddt x) s = .next t ∧ t.getV x = s.dt ∧ SameV [x] s t ∧ Frame [.v] s t) ∧
    (decode (formXK 0xF#4 x 0x15#8) = .ok (.stdt x) ∧
      ∃ t, exec (.stdt x) s = .next t ∧ t.dt = s.getV x ∧ Frame [.dt] s t) ∧
    (decode (formXK 0xF#4 x 0x18#8) = .ok (.stst x) ∧
      ∃ t, exec (.stst x) s = .next t ∧ t.st = s.getV x ∧ Frame [.st] s t)

/-! ### Events, clocks and the host loop -/

/-- R173: `DelayTick`. -/
def Obligations.DelayTickCountsDown : Prop :=
  ∀ s : State, ∃ t, eventStep .delayTick s = .next t ∧ Frame [.dt] s t ∧
    (s.faulted = false → t.dt.toNat = (if s.dt.toNat > 0 then s.dt.toNat - 1 else 0)) ∧ (s.faulted = true → t = s)

/-- R174, R175: `SoundTick` decrements `ST`, samples the sound flag after the decrement and issues one `beep` (the
spec's decision D18). -/
def Obligations.SoundTickSamplesAndBeeps : Prop :=
  ∀ s : State, s.faulted = false → ∃ t, eventStep .soundTick s = .next t ∧
    t.st.toNat = s.st.toNat - 1 ∧ (t.soundOn = true ↔ t.st ≠ 0) ∧
    t.platform.calls = s.platform.calls ++ [.beep (t.soundOn && !s.settings.mute)] ∧
    t.platform.inbox = s.platform.inbox ∧ t.platform.quit = s.platform.quit ∧ Frame [.st, .soundOn, .platform] s t

/-- R173, R174: any number of ticks takes a timer to zero and never below, and a sound timer set to `v` has the flag on
for exactly the first `v - 1` ticks (the sampling is the spec's decision D18). -/
def Obligations.TimersSaturateAtZero : Prop :=
  ∀ (n : Nat) (s : State), s.faulted = false →
    (State.delayTick^[n] s).dt.toNat = s.dt.toNat - n ∧ (State.soundTick^[n] s).st.toNat = s.st.toNat - n ∧
    (0 < n → ((State.soundTick^[n] s).soundOn = true ↔ n + 1 ≤ s.st.toNat))

/-- R177, R142: `KeyEvent` latches a press only while the latch is armed and empty (the spec's decision D16), and does
not touch the key levels. -/
def Obligations.KeyEventLatchesFirstPress : Prop :=
  ∀ (s : State) (k : Key), s.faulted = false → ∃ t, eventStep (.keyEvent k) s = .next t ∧
    t.pending = (if s.waiting = true ∧ s.pending = none then some k else s.pending) ∧ Frame [.pending] s t

/-- R178: `Quit` changes no state of the core and the run ends with the state as it is; that a run that quit steps to
itself is the form the model chose for the end of the run (log 7). -/
def Obligations.QuitEndsTheRun : Prop :=
  ∀ s : State, ∃ t, eventStep .quit s = .next t ∧ Frame [.platform] s t ∧ step t = .next t

/-- R171: a clock `k` whole periods late is due on each of its next `k` calls, moves its reference point by exactly one
period each time, and is then due no more (exact rational time: the spec's decision D19). -/
def Obligations.LateClockCatchesUp : Prop :=
  ∀ (ref hz now : Rat) (k : Nat), 0 < hz → now - ref ≥ k * (1 / hz) → now - ref < (k + 1) * (1 / hz) →
    (∀ j, j < k → clockTick (ref + j * (1 / hz)) hz now = (ref + (j + 1) * (1 / hz), true)) ∧
    clockTick (ref + k * (1 / hz)) hz now = (ref + k * (1 / hz), false)

/-- R167, R180: in one iteration of the host loop (log 5) the sound and the delay clock, if due, are served before the
CPU: a due decrement of `DT` is seen by the LDDT of that iteration, a due SoundTick counts down and samples the `ST` from
before an STST or STDT of that iteration, and the values these write are not counted down; and the display is left not
dirty. The two ticks touch different parts of the state, so which of them is first shows nowhere. -/
def Obligations.DueTicksPrecedeTheStep : Prop :=
  ∀ (x : RegIdx) (s : State) (now : Rat) (levels : KeyLevels) (i : Instr), s.faulted = false →
    s.settings.wellFormed = true → decode s.fetchWord = .ok i → i = .lddt x ∨ i = .stst x ∨ i = .stdt x →
    now - s.clkSound ≥ 1 / s.settings.soundHz → now - s.clkDelay ≥ 1 / s.settings.delayHz →
    now - s.clkCpu ≥ 1 / s.settings.cpuHz →
    ∃ t, pollStep (.idle now levels) s = .next t ∧
      (t.getV x).toNat = (if i = .lddt x then s.dt.toNat - 1 else (s.getV x).toNat) ∧
      t.dt.toNat = (if i = .stdt x then (s.getV x).toNat else s.dt.toNat - 1) ∧
      t.st.toNat = (if i = .stst x then (s.getV x).toNat else s.st.toNat - 1) ∧
      (t.soundOn = true ↔ s.st.toNat > 1) ∧ t.pc = s.pc + 2 ∧ t.keys = levels ∧
      t.dirty = false ∧ t.clkSound = s.clkSound + 1 / s.settings.soundHz ∧
      t.clkDelay = s.clkDelay + 1 / s.settings.delayHz ∧ t.clkCpu = s.clkCpu + 1 / s.settings.cpuHz ∧
      SameV [x] s t

/-- R180: an iteration in which no clock is due changes nothing, and one that polled a key press or a quit checks no
clock. -/
def Obligations.PollWithoutDueClockChangesNothing : Prop :=
  ∀ (s : State) (now : Rat) (levels : KeyLevels), s.settings.wellFormed = true →
    (now - s.clkSound < 1 / s.settings.soundHz → now - s.clkDelay < 1 / s.settings.delayHz →
      now - s.clkCpu < 1 / s.settings.cpuHz → pollStep (.idle now levels) s = .next s) ∧
    (∀ k, pollStep (.keyPress k) s = eventStep (.keyEvent k) s) ∧ pollStep .quit s = eventStep .quit s

/-- R180, R181: after a CPU step a dirty display is redrawn whole and its flag consumed, a clean one is not (the
protocol is the spec's decision D26). -/
def Obligations.DirtyDisplayIsRedrawn : Prop :=
  ∀ s : State, s.faulted = false →
    s.afterStep.dirty = false ∧ Frame [.dirty, .platform] s s.afterStep ∧
    s.afterStep.platform.inbox = s.platform.inbox ∧ s.afterStep.platform.quit = s.platform.quit ∧
    (s.dirty = false → s.afterStep.platform = s.platform) ∧
    (s.dirty = true → ∃ draws, s.afterStep.platform.calls = s.platform.calls ++ ([.clear] ++ draws ++ [.present]) ∧
      ∀ c, c ∈ draws ↔ ∃ x y, x < 64 ∧ y < 32 ∧ s.pixel x y = true ∧ c = .drawPixel x y)

/-! ### The whole machine -/

/-- Every instruction leaves unchanged every part of the state, every general register, and every byte of memory, that
its rule does not name (10_state.md R11 to R28, 20_memory.md R56; tables `writes`, `writesV` and `storedBytes`). -/
def Obligations.EveryInstructionKeepsItsFrame : Prop :=
  ∀ (i : Instr) (s t : State), exec i s = .next t →
    Frame (writes i) s t ∧ SameV (writesV i) s t ∧ SameMemOutside s.i.toNat (storedBytes i) s t

/-- Every instruction answers a next state in every state, and so does every step of a machine whose settings a machine
can be constructed with (R88, R179). -/
def Obligations.NothingIsStuck : Prop :=
  (∀ (i : Instr) (s : State), ∃ t, exec i s = .next t) ∧
    ∀ s : State, s.settings.wellFormed = true → ∃ t, step s = .next t

/-- The invariant (canonical memory, the key latch of R25, the stack bound of R14, the generator's range of R26, the
clocks of R171, constructible settings) is kept by every step. -/
def Obligations.StepKeepsInvariant : Prop :=
  ∀ s t : State, s.Inv → step s = .next t → t.Inv

/-- The invariant holds after reset, and of every machine that construction answers. -/
def Obligations.ConstructionMeetsInvariant : Prop :=
  State.reset.Inv ∧ ∀ (c : Settings) (rom : List Byte) (s : State), State.construct c rom = .ok s → s.Inv

/-- No step changes the Settings (R191). -/
def Obligations.SettingsNeverChange : Prop :=
  ∀ s t : State, step s = .next t → t.settings = s.settings

/-- No instruction lets a program observe the dirty flag, the sound flag or the clocks (R30): with those replaced the
instruction does the same to everything else, and leaves the sound flag and the clocks alone. -/
def Obligations.HiddenStateIsUnobservable : Prop :=
  ∀ (i : Instr) (s t : State) (d n : Bool) (a b c : Rat), exec i s = .next t →
    ∃ d', exec i (s.withHidden d n a b c) = .next (t.withHidden d' n a b c)

/-! ### Reset -/

/-- R31: the state after reset of any machine constructed with an empty ROM (the zeros are the spec's decisions D3, D18,
D19, D22, D23; the font bytes are those of the table of R49, digits `0` to `F`). -/
def Obligations.ResetValues : Prop :=
  ∀ (c : Settings) (s : State), State.construct c [] = .ok s →
    (∀ r, s.getV r = 0) ∧ s.i = 0 ∧ s.pc = 0x200 ∧ s.sp = 0 ∧ (∀ j, ∀ h : j < 16, s.stack[j] = 0) ∧ s.dt = 0 ∧
    s.st = 0 ∧ s.fault = none ∧ (∀ x y, s.pixel x y = false) ∧ s.dirty = false ∧ (∀ k, s.isDown k = false) ∧
    s.waiting = false ∧ s.pending = none ∧ s.rng = c.rngSeed ∧ s.clkCpu = c.t0 ∧ s.clkDelay = c.t0 ∧
    s.clkSound = c.t0 ∧ s.soundOn = false ∧ s.settings = c ∧
    (List.range 80).map (fun k => s.readByte (c.fontBase + k)) =
      [0xF0, 0x90, 0x90, 0x90, 0xF0] ++ [0x20, 0x60, 0x20, 0x20, 0x70] ++ [0xF0, 0x10, 0xF0, 0x80, 0xF0] ++
      [0xF0, 0x10, 0xF0, 0x10, 0xF0] ++ [0x90, 0x90, 0xF0, 0x10, 0x10] ++ [0xF0, 0x80, 0xF0, 0x10, 0xF0] ++
      [0xF0, 0x80, 0xF0, 0x90, 0xF0] ++ [0xF0, 0x10, 0x20, 0x40, 0x40] ++ [0xF0, 0x90, 0xF0, 0x90, 0xF0] ++
      [0xF0, 0x90, 0xF0, 0x10, 0xF0] ++ [0xF0, 0x90, 0xF0, 0x90, 0x90] ++ [0xE0, 0x90, 0xE0, 0x90, 0xE0] ++
      [0xF0, 0x80, 0x80, 0x80, 0xF0] ++ [0xE0, 0x90, 0x90, 0x90, 0xE0] ++ [0xF0, 0x80, 0xF0, 0x80, 0xF0] ++
      [0xF0, 0x80, 0xF0, 0x80, 0x80] ∧
    ∀ a, a < 4096 → ¬(c.fontBase ≤ a ∧ a < c.fontBase + 80) → s.readByte a = 0

/-- R192, R194: construction places the ROM verbatim at `0x200` and leaves every other byte of the reset image; it is
refused exactly for a ROM over 3584 bytes or settings out of their range (the spec's decisions D19 to D21). -/
def Obligations.ConstructionPlacesRom : Prop :=
  ∀ (c : Settings) (rom : List Byte),
    ((∃ s, State.construct c rom = .ok s) ↔ c.wellFormed = true ∧ rom.length ≤ 3584) ∧
    ∀ s, State.construct c rom = .ok s →
      (∀ k, ∀ h : k < rom.length, s.readByte (0x200 + k) = rom[k]) ∧
      (∀ a, a < 4096 → ¬(0x200 ≤ a ∧ a < 0x200 + rom.length) → s.readByte a = (State.init c).readByte a) ∧
      Frame [.mem] (State.init c) s
end

