-- ==== Sys2Proof/Laws/State.lean ====
section
/-! SUPPORT. One lemma per field per update of the state, each true by `rfl`, and the same for the reads of a register,
a byte of memory and a pixel; the three shorthands are rewritten to the updates they stand for. -/

namespace Sys2Proof.Machine

@[simp] theorem State.setVF_eq (s : State) (f : Bool) : s.setVF f = s.setV 15 (flagByte f) := rfl
@[simp] theorem State.advance_eq (s : State) : s.advance = s.setPc (s.pc + 2) := rfl
@[simp] theorem State.rewind_eq (s : State) : s.rewind = s.setPc (s.pc - 2) := rfl
@[simp] theorem State.indexed_eq (s : State) (k : Nat) : s.indexed k = s.i.toNat + k := rfl
@[simp] theorem State.rngNext_byte (s : State) : s.rngNext.2 = BitVec.ofNat 8 (rngStep s.rng) := rfl
@[simp] theorem State.consumeDirty_flag (s : State) : s.consumeDirty.2 = s.dirty := rfl


/-! `setV` -/

@[simp] theorem State.setV_v (s : State) (x : RegIdx) (b : Byte) : (s.setV x b).v = s.v.set x.toNat b x.isLt := rfl
@[simp] theorem State.setV_i (s : State) (x : RegIdx) (b : Byte) : (s.setV x b).i = s.i := rfl
@[simp] theorem State.setV_pc (s : State) (x : RegIdx) (b : Byte) : (s.setV x b).pc = s.pc := rfl
@[simp] theorem State.setV_sp (s : State) (x : RegIdx) (b : Byte) : (s.setV x b).sp = s.sp := rfl
@[simp] theorem State.setV_stack (s : State) (x : RegIdx) (b : Byte) : (s.setV x b).stack = s.stack := rfl
@[simp] theorem State.setV_dt (s : State) (x : RegIdx) (b : Byte) : (s.setV x b).dt = s.dt := rfl
@[simp] theorem State.setV_st (s : State) (x : RegIdx) (b : Byte) : (s.setV x b).st = s.st := rfl
@[simp] theorem State.setV_fault (s : State) (x : RegIdx) (b : Byte) : (s.setV x b).fault = s.fault := rfl
@[simp] theorem State.setV_faulted (s : State) (x : RegIdx) (b : Byte) : (s.setV x b).faulted = s.faulted := rfl
@[simp] theorem State.setV_mem (s : State) (x : RegIdx) (b : Byte) : (s.setV x b).mem = s.mem := rfl
@[simp] theorem State.setV_fb (s : State) (x : RegIdx) (b : Byte) : (s.setV x b).fb = s.fb := rfl
@[simp] theorem State.setV_dirty (s : State) (x : RegIdx) (b : Byte) : (s.setV x b).dirty = s.dirty := rfl
@[simp] theorem State.setV_keys (s : State) (x : RegIdx) (b : Byte) : (s.setV x b).keys = s.keys := rfl
@[simp] theorem State.setV_waiting (s : State) (x : RegIdx) (b : Byte) : (s.setV x b).waiting = s.waiting := rfl
@[simp] theorem State.setV_pending (s : State) (x : RegIdx) (b : Byte) : (s.setV x b).pending = s.pending := rfl
@[simp] theorem State.setV_rng (s : State) (x : RegIdx) (b : Byte) : (s.setV x b).rng = s.rng := rfl
@[simp] theorem State.setV_clkCpu (s : State) (x : RegIdx) (b : Byte) : (s.setV x b).clkCpu = s.clkCpu := rfl
@[simp] theorem State.setV_clkDelay (s : State) (x : RegIdx) (b : Byte) : (s.setV x b).clkDelay = s.clkDelay := rfl
@[simp] theorem State.setV_clkSound (s : State) (x : RegIdx) (b : Byte) : (s.setV x b).clkSound = s.clkSound := rfl
@[simp] theorem State.setV_soundOn (s : State) (x : RegIdx) (b : Byte) : (s.setV x b).soundOn = s.soundOn := rfl
@[simp] theorem State.setV_settings (s : State) (x : RegIdx) (b : Byte) : (s.setV x b).settings = s.settings := rfl
@[simp] theorem State.setV_platform (s : State) (x : RegIdx) (b : Byte) : (s.setV x b).platform = s.platform := rfl
@[simp] theorem State.setV_readByte (s : State) (x : RegIdx) (b : Byte) (c : Nat) : (s.setV x b).readByte c = s.readByte c := rfl
@[simp] theorem State.setV_pixel (s : State) (x : RegIdx) (b : Byte) (x' y' : Nat) : (s.setV x b).pixel x' y' = s.pixel x' y' := rfl

/-! `setI` -/

@[simp] theorem State.setI_v (s : State) (w : Word) : (s.setI w).v = s.v := rfl
@[simp] theorem State.setI_i (s : State) (w : Word) : (s.setI w).i = w := rfl
@[simp] theorem State.setI_pc (s : State) (w : Word) : (s.setI w).pc = s.pc := rfl
@[simp] theorem State.setI_sp (s : State) (w : Word) : (s.setI w).sp = s.sp := rfl
@[simp] theorem State.setI_stack (s : State) (w : Word) : (s.setI w).stack = s.stack := rfl
@[simp] theorem State.setI_dt (s : State) (w : Word) : (s.setI w).dt = s.dt := rfl
@[simp] theorem State.setI_st (s : State) (w : Word) : (s.setI w).st = s.st := rfl
@[simp] theorem State.setI_fault (s : State) (w : Word) : (s.setI w).fault = s.fault := rfl
@[simp] theorem State.setI_faulted (s : State) (w : Word) : (s.setI w).faulted = s.faulted := rfl
@[simp] theorem State.setI_mem (s : State) (w : Word) : (s.setI w).mem = s.mem := rfl
@[simp] theorem State.setI_fb (s : State) (w : Word) : (s.setI w).fb = s.fb := rfl
@[simp] theorem State.setI_dirty (s : State) (w : Word) : (s.setI w).dirty = s.dirty := rfl
@[simp] theorem State.setI_keys (s : State) (w : Word) : (s.setI w).keys = s.keys := rfl
@[simp] theorem State.setI_waiting (s : State) (w : Word) : (s.setI w).waiting = s.waiting := rfl
@[simp] theorem State.setI_pending (s : State) (w : Word) : (s.setI w).pending = s.pending := rfl
@[simp] theorem State.setI_rng (s : State) (w : Word) : (s.setI w).rng = s.rng := rfl
@[simp] theorem State.setI_clkCpu (s : State) (w : Word) : (s.setI w).clkCpu = s.clkCpu := rfl
@[simp] theorem State.setI_clkDelay (s : State) (w : Word) : (s.setI w).clkDelay = s.clkDelay := rfl
@[simp] theorem State.setI_clkSound (s : State) (w : Word) : (s.setI w).clkSound = s.clkSound := rfl
@[simp] theorem State.setI_soundOn (s : State) (w : Word) : (s.setI w).soundOn = s.soundOn := rfl
@[simp] theorem State.setI_settings (s : State) (w : Word) : (s.setI w).settings = s.settings := rfl
@[simp] theorem State.setI_platform (s : State) (w : Word) : (s.setI w).platform = s.platform := rfl
@[simp] theorem State.setI_getV (s : State) (w : Word) (r : RegIdx) : (s.setI w).getV r = s.getV r := rfl
@[simp] theorem State.setI_readByte (s : State) (w : Word) (c : Nat) : (s.setI w).readByte c = s.readByte c := rfl
@[simp] theorem State.setI_pixel (s : State) (w : Word) (x' y' : Nat) : (s.setI w).pixel x' y' = s.pixel x' y' := rfl

/-! `setPc` -/

@[simp] theorem State.setPc_v (s : State) (w : Word) : (s.setPc w).v = s.v := rfl
@[simp] theorem State.setPc_i (s : State) (w : Word) : (s.setPc w).i = s.i := rfl
@[simp] theorem State.setPc_pc (s : State) (w : Word) : (s.setPc w).pc = w := rfl
@[simp] theorem State.setPc_sp (s : State) (w : Word) : (s.setPc w).sp = s.sp := rfl
@[simp] theorem State.setPc_stack (s : State) (w : Word) : (s.setPc w).stack = s.stack := rfl
@[simp] theorem State.setPc_dt (s : State) (w : Word) : (s.setPc w).dt = s.dt := rfl
@[simp] theorem State.setPc_st (s : State) (w : Word) : (s.setPc w).st = s.st := rfl
@[simp] theorem State.setPc_fault (s : State) (w : Word) : (s.setPc w).fault = s.fault := rfl
@[simp] theorem State.setPc_faulted (s : State) (w : Word) : (s.setPc w).faulted = s.faulted := rfl
@[simp] theorem State.setPc_mem (s : State) (w : Word) : (s.setPc w).mem = s.mem := rfl
@[simp] theorem State.setPc_fb (s : State) (w : Word) : (s.setPc w).fb = s.fb := rfl
@[simp] theorem State.setPc_dirty (s : State) (w : Word) : (s.setPc w).dirty = s.dirty := rfl
@[simp] theorem State.setPc_keys (s : State) (w : Word) : (s.setPc w).keys = s.keys := rfl
@[simp] theorem State.setPc_waiting (s : State) (w : Word) : (s.setPc w).waiting = s.waiting := rfl
@[simp] theorem State.setPc_pending (s : State) (w : Word) : (s.setPc w).pending = s.pending := rfl
@[simp] theorem State.setPc_rng (s : State) (w : Word) : (s.setPc w).rng = s.rng := rfl
@[simp] theorem State.setPc_clkCpu (s : State) (w : Word) : (s.setPc w).clkCpu = s.clkCpu := rfl
@[simp] theorem State.setPc_clkDelay (s : State) (w : Word) : (s.setPc w).clkDelay = s.clkDelay := rfl
@[simp] theorem State.setPc_clkSound (s : State) (w : Word) : (s.setPc w).clkSound = s.clkSound := rfl
@[simp] theorem State.setPc_soundOn (s : State) (w : Word) : (s.setPc w).soundOn = s.soundOn := rfl
@[simp] theorem State.setPc_settings (s : State) (w : Word) : (s.setPc w).settings = s.settings := rfl
@[simp] theorem State.setPc_platform (s : State) (w : Word) : (s.setPc w).platform = s.platform := rfl
@[simp] theorem State.setPc_getV (s : State) (w : Word) (r : RegIdx) : (s.setPc w).getV r = s.getV r := rfl
@[simp] theorem State.setPc_readByte (s : State) (w : Word) (c : Nat) : (s.setPc w).readByte c = s.readByte c := rfl
@[simp] theorem State.setPc_pixel (s : State) (w : Word) (x' y' : Nat) : (s.setPc w).pixel x' y' = s.pixel x' y' := rfl

/-! `setDT` -/

@[simp] theorem State.setDT_v (s : State) (b : Byte) : (s.setDT b).v = s.v := rfl
@[simp] theorem State.setDT_i (s : State) (b : Byte) : (s.setDT b).i = s.i := rfl
@[simp] theorem State.setDT_pc (s : State) (b : Byte) : (s.setDT b).pc = s.pc := rfl
@[simp] theorem State.setDT_sp (s : State) (b : Byte) : (s.setDT b).sp = s.sp := rfl
@[simp] theorem State.setDT_stack (s : State) (b : Byte) : (s.setDT b).stack = s.stack := rfl
@[simp] theorem State.setDT_dt (s : State) (b : Byte) : (s.setDT b).dt = b := rfl
@[simp] theorem State.setDT_st (s : State) (b : Byte) : (s.setDT b).st = s.st := rfl
@[simp] theorem State.setDT_fault (s : State) (b : Byte) : (s.setDT b).fault = s.fault := rfl
@[simp] theorem State.setDT_faulted (s : State) (b : Byte) : (s.setDT b).faulted = s.faulted := rfl
@[simp] theorem State.setDT_mem (s : State) (b : Byte) : (s.setDT b).mem = s.mem := rfl
@[simp] theorem State.setDT_fb (s : State) (b : Byte) : (s.setDT b).fb = s.fb := rfl
@[simp] theorem State.setDT_dirty (s : State) (b : Byte) : (s.setDT b).dirty = s.dirty := rfl
@[simp] theorem State.setDT_keys (s : State) (b : Byte) : (s.setDT b).keys = s.keys := rfl
@[simp] theorem State.setDT_waiting (s : State) (b : Byte) : (s.setDT b).waiting = s.waiting := rfl
@[simp] theorem State.setDT_pending (s : State) (b : Byte) : (s.setDT b).pending = s.pending := rfl
@[simp] theorem State.setDT_rng (s : State) (b : Byte) : (s.setDT b).rng = s.rng := rfl
@[simp] theorem State.setDT_clkCpu (s : State) (b : Byte) : (s.setDT b).clkCpu = s.clkCpu := rfl
@[simp] theorem State.setDT_clkDelay (s : State) (b : Byte) : (s.setDT b).clkDelay = s.clkDelay := rfl
@[simp] theorem State.setDT_clkSound (s : State) (b : Byte) : (s.setDT b).clkSound = s.clkSound := rfl
@[simp] theorem State.setDT_soundOn (s : State) (b : Byte) : (s.setDT b).soundOn = s.soundOn := rfl
@[simp] theorem State.setDT_settings (s : State) (b : Byte) : (s.setDT b).settings = s.settings := rfl
@[simp] theorem State.setDT_platform (s : State) (b : Byte) : (s.setDT b).platform = s.platform := rfl
@[simp] theorem State.setDT_getV (s : State) (b : Byte) (r : RegIdx) : (s.setDT b).getV r = s.getV r := rfl
@[simp] theorem State.setDT_readByte (s : State) (b : Byte) (c : Nat) : (s.setDT b).readByte c = s.readByte c := rfl
@[simp] theorem State.setDT_pixel (s : State) (b : Byte) (x' y' : Nat) : (s.setDT b).pixel x' y' = s.pixel x' y' := rfl

/-! `setST` -/

@[simp] theorem State.setST_v (s : State) (b : Byte) : (s.setST b).v = s.v := rfl
@[simp] theorem State.setST_i (s : State) (b : Byte) : (s.setST b).i = s.i := rfl
@[simp] theorem State.setST_pc (s : State) (b : Byte) : (s.setST b).pc = s.pc := rfl
@[simp] theorem State.setST_sp (s : State) (b : Byte) : (s.setST b).sp = s.sp := rfl
@[simp] theorem State.setST_stack (s : State) (b : Byte) : (s.setST b).stack = s.stack := rfl
@[simp] theorem State.setST_dt (s : State) (b : Byte) : (s.setST b).dt = s.dt := rfl
@[simp] theorem State.setST_st (s : State) (b : Byte) : (s.setST b).st = b := rfl
@[simp] theorem State.setST_fault (s : State) (b : Byte) : (s.setST b).fault = s.fault := rfl
@[simp] theorem State.setST_faulted (s : State) (b : Byte) : (s.setST b).faulted = s.faulted := rfl
@[simp] theorem State.setST_mem (s : State) (b : Byte) : (s.setST b).mem = s.mem := rfl
@[simp] theorem State.setST_fb (s : State) (b : Byte) : (s.setST b).fb = s.fb := rfl
@[simp] theorem State.setST_dirty (s : State) (b : Byte) : (s.setST b).dirty = s.dirty := rfl
@[simp] theorem State.setST_keys (s : State) (b : Byte) : (s.setST b).keys = s.keys := rfl
@[simp] theorem State.setST_waiting (s : State) (b : Byte) : (s.setST b).waiting = s.waiting := rfl
@[simp] theorem State.setST_pending (s : State) (b : Byte) : (s.setST b).pending = s.pending := rfl
@[simp] theorem State.setST_rng (s : State) (b : Byte) : (s.setST b).rng = s.rng := rfl
@[simp] theorem State.setST_clkCpu (s : State) (b : Byte) : (s.setST b).clkCpu = s.clkCpu := rfl
@[simp] theorem State.setST_clkDelay (s : State) (b : Byte) : (s.setST b).clkDelay = s.clkDelay := rfl
@[simp] theorem State.setST_clkSound (s : State) (b : Byte) : (s.setST b).clkSound = s.clkSound := rfl
@[simp] theorem State.setST_soundOn (s : State) (b : Byte) : (s.setST b).soundOn = s.soundOn := rfl
@[simp] theorem State.setST_settings (s : State) (b : Byte) : (s.setST b).settings = s.settings := rfl
@[simp] theorem State.setST_platform (s : State) (b : Byte) : (s.setST b).platform = s.platform := rfl
@[simp] theorem State.setST_getV (s : State) (b : Byte) (r : RegIdx) : (s.setST b).getV r = s.getV r := rfl
@[simp] theorem State.setST_readByte (s : State) (b : Byte) (c : Nat) : (s.setST b).readByte c = s.readByte c := rfl
@[simp] theorem State.setST_pixel (s : State) (b : Byte) (x' y' : Nat) : (s.setST b).pixel x' y' = s.pixel x' y' := rfl

/-! `pushPc` -/

@[simp] theorem State.pushPc_v (s : State) : (s.pushPc).v = s.v := rfl
@[simp] theorem State.pushPc_i (s : State) : (s.pushPc).i = s.i := rfl
@[simp] theorem State.pushPc_pc (s : State) : (s.pushPc).pc = s.pc := rfl
@[simp] theorem State.pushPc_sp (s : State) : (s.pushPc).sp = s.sp + 1 := rfl
@[simp] theorem State.pushPc_stack (s : State) : (s.pushPc).stack = s.stack.set (s.sp.toNat % 16) s.pc (Nat.mod_lt _ (by decide)) := rfl
@[simp] theorem State.pushPc_dt (s : State) : (s.pushPc).dt = s.dt := rfl
@[simp] theorem State.pushPc_st (s : State) : (s.pushPc).st = s.st := rfl
@[simp] theorem State.pushPc_fault (s : State) : (s.pushPc).fault = s.fault := rfl
@[simp] theorem State.pushPc_faulted (s : State) : (s.pushPc).faulted = s.faulted := rfl
@[simp] theorem State.pushPc_mem (s : State) : (s.pushPc).mem = s.mem := rfl
@[simp] theorem State.pushPc_fb (s : State) : (s.pushPc).fb = s.fb := rfl
@[simp] theorem State.pushPc_dirty (s : State) : (s.pushPc).dirty = s.dirty := rfl
@[simp] theorem State.pushPc_keys (s : State) : (s.pushPc).keys = s.keys := rfl
@[simp] theorem State.pushPc_waiting (s : State) : (s.pushPc).waiting = s.waiting := rfl
@[simp] theorem State.pushPc_pending (s : State) : (s.pushPc).pending = s.pending := rfl
@[simp] theorem State.pushPc_rng (s : State) : (s.pushPc).rng = s.rng := rfl
@[simp] theorem State.pushPc_clkCpu (s : State) : (s.pushPc).clkCpu = s.clkCpu := rfl
@[simp] theorem State.pushPc_clkDelay (s : State) : (s.pushPc).clkDelay = s.clkDelay := rfl
@[simp] theorem State.pushPc_clkSound (s : State) : (s.pushPc).clkSound = s.clkSound := rfl
@[simp] theorem State.pushPc_soundOn (s : State) : (s.pushPc).soundOn = s.soundOn := rfl
@[simp] theorem State.pushPc_settings (s : State) : (s.pushPc).settings = s.settings := rfl
@[simp] theorem State.pushPc_platform (s : State) : (s.pushPc).platform = s.platform := rfl
@[simp] theorem State.pushPc_getV (s : State) (r : RegIdx) : (s.pushPc).getV r = s.getV r := rfl
@[simp] theorem State.pushPc_readByte (s : State) (c : Nat) : (s.pushPc).readByte c = s.readByte c := rfl
@[simp] theorem State.pushPc_pixel (s : State) (x' y' : Nat) : (s.pushPc).pixel x' y' = s.pixel x' y' := rfl

/-! `popPc` -/

@[simp] theorem State.popPc_v (s : State) : (s.popPc).v = s.v := rfl
@[simp] theorem State.popPc_i (s : State) : (s.popPc).i = s.i := rfl
@[simp] theorem State.popPc_pc (s : State) : (s.popPc).pc = s.stackAt (s.sp - 1) := rfl
@[simp] theorem State.popPc_sp (s : State) : (s.popPc).sp = s.sp - 1 := rfl
@[simp] theorem State.popPc_stack (s : State) : (s.popPc).stack = s.stack := rfl
@[simp] theorem State.popPc_dt (s : State) : (s.popPc).dt = s.dt := rfl
@[simp] theorem State.popPc_st (s : State) : (s.popPc).st = s.st := rfl
@[simp] theorem State.popPc_fault (s : State) : (s.popPc).fault = s.fault := rfl
@[simp] theorem State.popPc_faulted (s : State) : (s.popPc).faulted = s.faulted := rfl
@[simp] theorem State.popPc_mem (s : State) : (s.popPc).mem = s.mem := rfl
@[simp] theorem State.popPc_fb (s : State) : (s.popPc).fb = s.fb := rfl
@[simp] theorem State.popPc_dirty (s : State) : (s.popPc).dirty = s.dirty := rfl
@[simp] theorem State.popPc_keys (s : State) : (s.popPc).keys = s.keys := rfl
@[simp] theorem State.popPc_waiting (s : State) : (s.popPc).waiting = s.waiting := rfl
@[simp] theorem State.popPc_pending (s : State) : (s.popPc).pending = s.pending := rfl
@[simp] theorem State.popPc_rng (s : State) : (s.popPc).rng = s.rng := rfl
@[simp] theorem State.popPc_clkCpu (s : State) : (s.popPc).clkCpu = s.clkCpu := rfl
@[simp] theorem State.popPc_clkDelay (s : State) : (s.popPc).clkDelay = s.clkDelay := rfl
@[simp] theorem State.popPc_clkSound (s : State) : (s.popPc).clkSound = s.clkSound := rfl
@[simp] theorem State.popPc_soundOn (s : State) : (s.popPc).soundOn = s.soundOn := rfl
@[simp] theorem State.popPc_settings (s : State) : (s.popPc).settings = s.settings := rfl
@[simp] theorem State.popPc_platform (s : State) : (s.popPc).platform = s.platform := rfl
@[simp] theorem State.popPc_getV (s : State) (r : RegIdx) : (s.popPc).getV r = s.getV r := rfl
@[simp] theorem State.popPc_readByte (s : State) (c : Nat) : (s.popPc).readByte c = s.readByte c := rfl
@[simp] theorem State.popPc_pixel (s : State) (x' y' : Nat) : (s.popPc).pixel x' y' = s.pixel x' y' := rfl

/-! `raise` -/

@[simp] theorem State.raise_v (s : State) (k : FaultKind) (w : Word) : (s.raise k w).v = s.v := rfl
@[simp] theorem State.raise_i (s : State) (k : FaultKind) (w : Word) : (s.raise k w).i = s.i := rfl
@[simp] theorem State.raise_pc (s : State) (k : FaultKind) (w : Word) : (s.raise k w).pc = s.pc := rfl
@[simp] theorem State.raise_sp (s : State) (k : FaultKind) (w : Word) : (s.raise k w).sp = s.sp := rfl
@[simp] theorem State.raise_stack (s : State) (k : FaultKind) (w : Word) : (s.raise k w).stack = s.stack := rfl
@[simp] theorem State.raise_dt (s : State) (k : FaultKind) (w : Word) : (s.raise k w).dt = s.dt := rfl
@[simp] theorem State.raise_st (s : State) (k : FaultKind) (w : Word) : (s.raise k w).st = s.st := rfl
@[simp] theorem State.raise_fault (s : State) (k : FaultKind) (w : Word) : (s.raise k w).fault = some ⟨k, s.pc - 2, w⟩ := rfl
@[simp] theorem State.raise_mem (s : State) (k : FaultKind) (w : Word) : (s.raise k w).mem = s.mem := rfl
@[simp] theorem State.raise_fb (s : State) (k : FaultKind) (w : Word) : (s.raise k w).fb = s.fb := rfl
@[simp] theorem State.raise_dirty (s : State) (k : FaultKind) (w : Word) : (s.raise k w).dirty = s.dirty := rfl
@[simp] theorem State.raise_keys (s : State) (k : FaultKind) (w : Word) : (s.raise k w).keys = s.keys := rfl
@[simp] theorem State.raise_waiting (s : State) (k : FaultKind) (w : Word) : (s.raise k w).waiting = s.waiting := rfl
@[simp] theorem State.raise_pending (s : State) (k : FaultKind) (w : Word) : (s.raise k w).pending = s.pending := rfl
@[simp] theorem State.raise_rng (s : State) (k : FaultKind) (w : Word) : (s.raise k w).rng = s.rng := rfl
@[simp] theorem State.raise_clkCpu (s : State) (k : FaultKind) (w : Word) : (s.raise k w).clkCpu = s.clkCpu := rfl
@[simp] theorem State.raise_clkDelay (s : State) (k : FaultKind) (w : Word) : (s.raise k w).clkDelay = s.clkDelay := rfl
@[simp] theorem State.raise_clkSound (s : State) (k : FaultKind) (w : Word) : (s.raise k w).clkSound = s.clkSound := rfl
@[simp] theorem State.raise_soundOn (s : State) (k : FaultKind) (w : Word) : (s.raise k w).soundOn = s.soundOn := rfl
@[simp] theorem State.raise_settings (s : State) (k : FaultKind) (w : Word) : (s.raise k w).settings = s.settings := rfl
@[simp] theorem State.raise_platform (s : State) (k : FaultKind) (w : Word) : (s.raise k w).platform = s.platform := rfl
@[simp] theorem State.raise_getV (s : State) (k : FaultKind) (w : Word) (r : RegIdx) : (s.raise k w).getV r = s.getV r := rfl
@[simp] theorem State.raise_readByte (s : State) (k : FaultKind) (w : Word) (c : Nat) : (s.raise k w).readByte c = s.readByte c := rfl
@[simp] theorem State.raise_pixel (s : State) (k : FaultKind) (w : Word) (x' y' : Nat) : (s.raise k w).pixel x' y' = s.pixel x' y' := rfl

/-! `writeByte` -/

@[simp] theorem State.writeByte_v (s : State) (a : Nat) (b : Byte) : (s.writeByte a b).v = s.v := rfl
@[simp] theorem State.writeByte_i (s : State) (a : Nat) (b : Byte) : (s.writeByte a b).i = s.i := rfl
@[simp] theorem State.writeByte_pc (s : State) (a : Nat) (b : Byte) : (s.writeByte a b).pc = s.pc := rfl
@[simp] theorem State.writeByte_sp (s : State) (a : Nat) (b : Byte) : (s.writeByte a b).sp = s.sp := rfl
@[simp] theorem State.writeByte_stack (s : State) (a : Nat) (b : Byte) : (s.writeByte a b).stack = s.stack := rfl
@[simp] theorem State.writeByte_dt (s : State) (a : Nat) (b : Byte) : (s.writeByte a b).dt = s.dt := rfl
@[simp] theorem State.writeByte_st (s : State) (a : Nat) (b : Byte) : (s.writeByte a b).st = s.st := rfl
@[simp] theorem State.writeByte_fault (s : State) (a : Nat) (b : Byte) : (s.writeByte a b).fault = s.fault := rfl
@[simp] theorem State.writeByte_faulted (s : State) (a : Nat) (b : Byte) : (s.writeByte a b).faulted = s.faulted := rfl
@[simp] theorem State.writeByte_mem (s : State) (a : Nat) (b : Byte) : (s.writeByte a b).mem = writeCell s.settings.fontBase s.mem (a % 4096) b := rfl
@[simp] theorem State.writeByte_fb (s : State) (a : Nat) (b : Byte) : (s.writeByte a b).fb = s.fb := rfl
@[simp] theorem State.writeByte_dirty (s : State) (a : Nat) (b : Byte) : (s.writeByte a b).dirty = s.dirty := rfl
@[simp] theorem State.writeByte_keys (s : State) (a : Nat) (b : Byte) : (s.writeByte a b).keys = s.keys := rfl
@[simp] theorem State.writeByte_waiting (s : State) (a : Nat) (b : Byte) : (s.writeByte a b).waiting = s.waiting := rfl
@[simp] theorem State.writeByte_pending (s : State) (a : Nat) (b : Byte) : (s.writeByte a b).pending = s.pending := rfl
@[simp] theorem State.writeByte_rng (s : State) (a : Nat) (b : Byte) : (s.writeByte a b).rng = s.rng := rfl
@[simp] theorem State.writeByte_clkCpu (s : State) (a : Nat) (b : Byte) : (s.writeByte a b).clkCpu = s.clkCpu := rfl
@[simp] theorem State.writeByte_clkDelay (s : State) (a : Nat) (b : Byte) : (s.writeByte a b).clkDelay = s.clkDelay := rfl
@[simp] theorem State.writeByte_clkSound (s : State) (a : Nat) (b : Byte) : (s.writeByte a b).clkSound = s.clkSound := rfl
@[simp] theorem State.writeByte_soundOn (s : State) (a : Nat) (b : Byte) : (s.writeByte a b).soundOn = s.soundOn := rfl
@[simp] theorem State.writeByte_settings (s : State) (a : Nat) (b : Byte) : (s.writeByte a b).settings = s.settings := rfl
@[simp] theorem State.writeByte_platform (s : State) (a : Nat) (b : Byte) : (s.writeByte a b).platform = s.platform := rfl
@[simp] theorem State.writeByte_getV (s : State) (a : Nat) (b : Byte) (r : RegIdx) : (s.writeByte a b).getV r = s.getV r := rfl
@[simp] theorem State.writeByte_pixel (s : State) (a : Nat) (b : Byte) (x' y' : Nat) : (s.writeByte a b).pixel x' y' = s.pixel x' y' := rfl

/-! `rngNext` -/

@[simp] theorem State.rngNext_v (s : State) : (s.rngNext.1).v = s.v := rfl
@[simp] theorem State.rngNext_i (s : State) : (s.rngNext.1).i = s.i := rfl
@[simp] theorem State.rngNext_pc (s : State) : (s.rngNext.1).pc = s.pc := rfl
@[simp] theorem State.rngNext_sp (s : State) : (s.rngNext.1).sp = s.sp := rfl
@[simp] theorem State.rngNext_stack (s : State) : (s.rngNext.1).stack = s.stack := rfl
@[simp] theorem State.rngNext_dt (s : State) : (s.rngNext.1).dt = s.dt := rfl
@[simp] theorem State.rngNext_st (s : State) : (s.rngNext.1).st = s.st := rfl
@[simp] theorem State.rngNext_fault (s : State) : (s.rngNext.1).fault = s.fault := rfl
@[simp] theorem State.rngNext_faulted (s : State) : (s.rngNext.1).faulted = s.faulted := rfl
@[simp] theorem State.rngNext_mem (s : State) : (s.rngNext.1).mem = s.mem := rfl
@[simp] theorem State.rngNext_fb (s : State) : (s.rngNext.1).fb = s.fb := rfl
@[simp] theorem State.rngNext_dirty (s : State) : (s.rngNext.1).dirty = s.dirty := rfl
@[simp] theorem State.rngNext_keys (s : State) : (s.rngNext.1).keys = s.keys := rfl
@[simp] theorem State.rngNext_waiting (s : State) : (s.rngNext.1).waiting = s.waiting := rfl
@[simp] theorem State.rngNext_pending (s : State) : (s.rngNext.1).pending = s.pending := rfl
@[simp] theorem State.rngNext_rng (s : State) : (s.rngNext.1).rng = rngStep s.rng := rfl
@[simp] theorem State.rngNext_clkCpu (s : State) : (s.rngNext.1).clkCpu = s.clkCpu := rfl
@[simp] theorem State.rngNext_clkDelay (s : State) : (s.rngNext.1).clkDelay = s.clkDelay := rfl
@[simp] theorem State.rngNext_clkSound (s : State) : (s.rngNext.1).clkSound = s.clkSound := rfl
@[simp] theorem State.rngNext_soundOn (s : State) : (s.rngNext.1).soundOn = s.soundOn := rfl
@[simp] theorem State.rngNext_settings (s : State) : (s.rngNext.1).settings = s.settings := rfl
@[simp] theorem State.rngNext_platform (s : State) : (s.rngNext.1).platform = s.platform := rfl
@[simp] theorem State.rngNext_getV (s : State) (r : RegIdx) : (s.rngNext.1).getV r = s.getV r := rfl
@[simp] theorem State.rngNext_readByte (s : State) (c : Nat) : (s.rngNext.1).readByte c = s.readByte c := rfl
@[simp] theorem State.rngNext_pixel (s : State) (x' y' : Nat) : (s.rngNext.1).pixel x' y' = s.pixel x' y' := rfl

/-! `displayClear` -/

@[simp] theorem State.displayClear_v (s : State) : (s.displayClear).v = s.v := rfl
@[simp] theorem State.displayClear_i (s : State) : (s.displayClear).i = s.i := rfl
@[simp] theorem State.displayClear_pc (s : State) : (s.displayClear).pc = s.pc := rfl
@[simp] theorem State.displayClear_sp (s : State) : (s.displayClear).sp = s.sp := rfl
@[simp] theorem State.displayClear_stack (s : State) : (s.displayClear).stack = s.stack := rfl
@[simp] theorem State.displayClear_dt (s : State) : (s.displayClear).dt = s.dt := rfl
@[simp] theorem State.displayClear_st (s : State) : (s.displayClear).st = s.st := rfl
@[simp] theorem State.displayClear_fault (s : State) : (s.displayClear).fault = s.fault := rfl
@[simp] theorem State.displayClear_faulted (s : State) : (s.displayClear).faulted = s.faulted := rfl
@[simp] theorem State.displayClear_mem (s : State) : (s.displayClear).mem = s.mem := rfl
@[simp] theorem State.displayClear_fb (s : State) : (s.displayClear).fb = Vector.replicate 32 (Vector.replicate 64 false) := rfl
@[simp] theorem State.displayClear_dirty (s : State) : (s.displayClear).dirty = true := rfl
@[simp] theorem State.displayClear_keys (s : State) : (s.displayClear).keys = s.keys := rfl
@[simp] theorem State.displayClear_waiting (s : State) : (s.displayClear).waiting = s.waiting := rfl
@[simp] theorem State.displayClear_pending (s : State) : (s.displayClear).pending = s.pending := rfl
@[simp] theorem State.displayClear_rng (s : State) : (s.displayClear).rng = s.rng := rfl
@[simp] theorem State.displayClear_clkCpu (s : State) : (s.displayClear).clkCpu = s.clkCpu := rfl
@[simp] theorem State.displayClear_clkDelay (s : State) : (s.displayClear).clkDelay = s.clkDelay := rfl
@[simp] theorem State.displayClear_clkSound (s : State) : (s.displayClear).clkSound = s.clkSound := rfl
@[simp] theorem State.displayClear_soundOn (s : State) : (s.displayClear).soundOn = s.soundOn := rfl
@[simp] theorem State.displayClear_settings (s : State) : (s.displayClear).settings = s.settings := rfl
@[simp] theorem State.displayClear_platform (s : State) : (s.displayClear).platform = s.platform := rfl
@[simp] theorem State.displayClear_getV (s : State) (r : RegIdx) : (s.displayClear).getV r = s.getV r := rfl
@[simp] theorem State.displayClear_readByte (s : State) (c : Nat) : (s.displayClear).readByte c = s.readByte c := rfl

/-! `consumeDirty` -/

@[simp] theorem State.consumeDirty_v (s : State) : (s.consumeDirty.1).v = s.v := rfl
@[simp] theorem State.consumeDirty_i (s : State) : (s.consumeDirty.1).i = s.i := rfl
@[simp] theorem State.consumeDirty_pc (s : State) : (s.consumeDirty.1).pc = s.pc := rfl
@[simp] theorem State.consumeDirty_sp (s : State) : (s.consumeDirty.1).sp = s.sp := rfl
@[simp] theorem State.consumeDirty_stack (s : State) : (s.consumeDirty.1).stack = s.stack := rfl
@[simp] theorem State.consumeDirty_dt (s : State) : (s.consumeDirty.1).dt = s.dt := rfl
@[simp] theorem State.consumeDirty_st (s : State) : (s.consumeDirty.1).st = s.st := rfl
@[simp] theorem State.consumeDirty_fault (s : State) : (s.consumeDirty.1).fault = s.fault := rfl
@[simp] theorem State.consumeDirty_faulted (s : State) : (s.consumeDirty.1).faulted = s.faulted := rfl
@[simp] theorem State.consumeDirty_mem (s : State) : (s.consumeDirty.1).mem = s.mem := rfl
@[simp] theorem State.consumeDirty_fb (s : State) : (s.consumeDirty.1).fb = s.fb := rfl
@[simp] theorem State.consumeDirty_dirty (s : State) : (s.consumeDirty.1).dirty = false := rfl
@[simp] theorem State.consumeDirty_keys (s : State) : (s.consumeDirty.1).keys = s.keys := rfl
@[simp] theorem State.consumeDirty_waiting (s : State) : (s.consumeDirty.1).waiting = s.waiting := rfl
@[simp] theorem State.consumeDirty_pending (s : State) : (s.consumeDirty.1).pending = s.pending := rfl
@[simp] theorem State.consumeDirty_rng (s : State) : (s.consumeDirty.1).rng = s.rng := rfl
@[simp] theorem State.consumeDirty_clkCpu (s : State) : (s.consumeDirty.1).clkCpu = s.clkCpu := rfl
@[simp] theorem State.consumeDirty_clkDelay (s : State) : (s.consumeDirty.1).clkDelay = s.clkDelay := rfl
@[simp] theorem State.consumeDirty_clkSound (s : State) : (s.consumeDirty.1).clkSound = s.clkSound := rfl
@[simp] theorem State.consumeDirty_soundOn (s : State) : (s.consumeDirty.1).soundOn = s.soundOn := rfl
@[simp] theorem State.consumeDirty_settings (s : State) : (s.consumeDirty.1).settings = s.settings := rfl
@[simp] theorem State.consumeDirty_platform (s : State) : (s.consumeDirty.1).platform = s.platform := rfl
@[simp] theorem State.consumeDirty_getV (s : State) (r : RegIdx) : (s.consumeDirty.1).getV r = s.getV r := rfl
@[simp] theorem State.consumeDirty_readByte (s : State) (c : Nat) : (s.consumeDirty.1).readByte c = s.readByte c := rfl
@[simp] theorem State.consumeDirty_pixel (s : State) (x' y' : Nat) : (s.consumeDirty.1).pixel x' y' = s.pixel x' y' := rfl

/-! `setKeys` -/

@[simp] theorem State.setKeys_v (s : State) (l : KeyLevels) : (s.setKeys l).v = s.v := rfl
@[simp] theorem State.setKeys_i (s : State) (l : KeyLevels) : (s.setKeys l).i = s.i := rfl
@[simp] theorem State.setKeys_pc (s : State) (l : KeyLevels) : (s.setKeys l).pc = s.pc := rfl
@[simp] theorem State.setKeys_sp (s : State) (l : KeyLevels) : (s.setKeys l).sp = s.sp := rfl
@[simp] theorem State.setKeys_stack (s : State) (l : KeyLevels) : (s.setKeys l).stack = s.stack := rfl
@[simp] theorem State.setKeys_dt (s : State) (l : KeyLevels) : (s.setKeys l).dt = s.dt := rfl
@[simp] theorem State.setKeys_st (s : State) (l : KeyLevels) : (s.setKeys l).st = s.st := rfl
@[simp] theorem State.setKeys_fault (s : State) (l : KeyLevels) : (s.setKeys l).fault = s.fault := rfl
@[simp] theorem State.setKeys_faulted (s : State) (l : KeyLevels) : (s.setKeys l).faulted = s.faulted := rfl
@[simp] theorem State.setKeys_mem (s : State) (l : KeyLevels) : (s.setKeys l).mem = s.mem := rfl
@[simp] theorem State.setKeys_fb (s : State) (l : KeyLevels) : (s.setKeys l).fb = s.fb := rfl
@[simp] theorem State.setKeys_dirty (s : State) (l : KeyLevels) : (s.setKeys l).dirty = s.dirty := rfl
@[simp] theorem State.setKeys_keys (s : State) (l : KeyLevels) : (s.setKeys l).keys = l := rfl
@[simp] theorem State.setKeys_waiting (s : State) (l : KeyLevels) : (s.setKeys l).waiting = s.waiting := rfl
@[simp] theorem State.setKeys_pending (s : State) (l : KeyLevels) : (s.setKeys l).pending = s.pending := rfl
@[simp] theorem State.setKeys_rng (s : State) (l : KeyLevels) : (s.setKeys l).rng = s.rng := rfl
@[simp] theorem State.setKeys_clkCpu (s : State) (l : KeyLevels) : (s.setKeys l).clkCpu = s.clkCpu := rfl
@[simp] theorem State.setKeys_clkDelay (s : State) (l : KeyLevels) : (s.setKeys l).clkDelay = s.clkDelay := rfl
@[simp] theorem State.setKeys_clkSound (s : State) (l : KeyLevels) : (s.setKeys l).clkSound = s.clkSound := rfl
@[simp] theorem State.setKeys_soundOn (s : State) (l : KeyLevels) : (s.setKeys l).soundOn = s.soundOn := rfl
@[simp] theorem State.setKeys_settings (s : State) (l : KeyLevels) : (s.setKeys l).settings = s.settings := rfl
@[simp] theorem State.setKeys_platform (s : State) (l : KeyLevels) : (s.setKeys l).platform = s.platform := rfl
@[simp] theorem State.setKeys_getV (s : State) (l : KeyLevels) (r : RegIdx) : (s.setKeys l).getV r = s.getV r := rfl
@[simp] theorem State.setKeys_readByte (s : State) (l : KeyLevels) (c : Nat) : (s.setKeys l).readByte c = s.readByte c := rfl
@[simp] theorem State.setKeys_pixel (s : State) (l : KeyLevels) (x' y' : Nat) : (s.setKeys l).pixel x' y' = s.pixel x' y' := rfl

/-! `setLatch` -/

@[simp] theorem State.setLatch_v (s : State) (w : Bool) (p : Option Key) : (s.setLatch w p).v = s.v := rfl
@[simp] theorem State.setLatch_i (s : State) (w : Bool) (p : Option Key) : (s.setLatch w p).i = s.i := rfl
@[simp] theorem State.setLatch_pc (s : State) (w : Bool) (p : Option Key) : (s.setLatch w p).pc = s.pc := rfl
@[simp] theorem State.setLatch_sp (s : State) (w : Bool) (p : Option Key) : (s.setLatch w p).sp = s.sp := rfl
@[simp] theorem State.setLatch_stack (s : State) (w : Bool) (p : Option Key) : (s.setLatch w p).stack = s.stack := rfl
@[simp] theorem State.setLatch_dt (s : State) (w : Bool) (p : Option Key) : (s.setLatch w p).dt = s.dt := rfl
@[simp] theorem State.setLatch_st (s : State) (w : Bool) (p : Option Key) : (s.setLatch w p).st = s.st := rfl
@[simp] theorem State.setLatch_fault (s : State) (w : Bool) (p : Option Key) : (s.setLatch w p).fault = s.fault := rfl
@[simp] theorem State.setLatch_faulted (s : State) (w : Bool) (p : Option Key) : (s.setLatch w p).faulted = s.faulted := rfl
@[simp] theorem State.setLatch_mem (s : State) (w : Bool) (p : Option Key) : (s.setLatch w p).mem = s.mem := rfl
@[simp] theorem State.setLatch_fb (s : State) (w : Bool) (p : Option Key) : (s.setLatch w p).fb = s.fb := rfl
@[simp] theorem State.setLatch_dirty (s : State) (w : Bool) (p : Option Key) : (s.setLatch w p).dirty = s.dirty := rfl
@[simp] theorem State.setLatch_keys (s : State) (w : Bool) (p : Option Key) : (s.setLatch w p).keys = s.keys := rfl
@[simp] theorem State.setLatch_waiting (s : State) (w : Bool) (p : Option Key) : (s.setLatch w p).waiting = w := rfl
@[simp] theorem State.setLatch_pending (s : State) (w : Bool) (p : Option Key) : (s.setLatch w p).pending = p := rfl
@[simp] theorem State.setLatch_rng (s : State) (w : Bool) (p : Option Key) : (s.setLatch w p).rng = s.rng := rfl
@[simp] theorem State.setLatch_clkCpu (s : State) (w : Bool) (p : Option Key) : (s.setLatch w p).clkCpu = s.clkCpu := rfl
@[simp] theorem State.setLatch_clkDelay (s : State) (w : Bool) (p : Option Key) : (s.setLatch w p).clkDelay = s.clkDelay := rfl
@[simp] theorem State.setLatch_clkSound (s : State) (w : Bool) (p : Option Key) : (s.setLatch w p).clkSound = s.clkSound := rfl
@[simp] theorem State.setLatch_soundOn (s : State) (w : Bool) (p : Option Key) : (s.setLatch w p).soundOn = s.soundOn := rfl
@[simp] theorem State.setLatch_settings (s : State) (w : Bool) (p : Option Key) : (s.setLatch w p).settings = s.settings := rfl
@[simp] theorem State.setLatch_platform (s : State) (w : Bool) (p : Option Key) : (s.setLatch w p).platform = s.platform := rfl
@[simp] theorem State.setLatch_getV (s : State) (w : Bool) (p : Option Key) (r : RegIdx) : (s.setLatch w p).getV r = s.getV r := rfl
@[simp] theorem State.setLatch_readByte (s : State) (w : Bool) (p : Option Key) (c : Nat) : (s.setLatch w p).readByte c = s.readByte c := rfl
@[simp] theorem State.setLatch_pixel (s : State) (w : Bool) (p : Option Key) (x' y' : Nat) : (s.setLatch w p).pixel x' y' = s.pixel x' y' := rfl

/-! `emit` -/

@[simp] theorem State.emit_v (s : State) (cs : List PlatformCall) : (s.emit cs).v = s.v := rfl
@[simp] theorem State.emit_i (s : State) (cs : List PlatformCall) : (s.emit cs).i = s.i := rfl
@[simp] theorem State.emit_pc (s : State) (cs : List PlatformCall) : (s.emit cs).pc = s.pc := rfl
@[simp] theorem State.emit_sp (s : State) (cs : List PlatformCall) : (s.emit cs).sp = s.sp := rfl
@[simp] theorem State.emit_stack (s : State) (cs : List PlatformCall) : (s.emit cs).stack = s.stack := rfl
@[simp] theorem State.emit_dt (s : State) (cs : List PlatformCall) : (s.emit cs).dt = s.dt := rfl
@[simp] theorem State.emit_st (s : State) (cs : List PlatformCall) : (s.emit cs).st = s.st := rfl
@[simp] theorem State.emit_fault (s : State) (cs : List PlatformCall) : (s.emit cs).fault = s.fault := rfl
@[simp] theorem State.emit_faulted (s : State) (cs : List PlatformCall) : (s.emit cs).faulted = s.faulted := rfl
@[simp] theorem State.emit_mem (s : State) (cs : List PlatformCall) : (s.emit cs).mem = s.mem := rfl
@[simp] theorem State.emit_fb (s : State) (cs : List PlatformCall) : (s.emit cs).fb = s.fb := rfl
@[simp] theorem State.emit_dirty (s : State) (cs : List PlatformCall) : (s.emit cs).dirty = s.dirty := rfl
@[simp] theorem State.emit_keys (s : State) (cs : List PlatformCall) : (s.emit cs).keys = s.keys := rfl
@[simp] theorem State.emit_waiting (s : State) (cs : List PlatformCall) : (s.emit cs).waiting = s.waiting := rfl
@[simp] theorem State.emit_pending (s : State) (cs : List PlatformCall) : (s.emit cs).pending = s.pending := rfl
@[simp] theorem State.emit_rng (s : State) (cs : List PlatformCall) : (s.emit cs).rng = s.rng := rfl
@[simp] theorem State.emit_clkCpu (s : State) (cs : List PlatformCall) : (s.emit cs).clkCpu = s.clkCpu := rfl
@[simp] theorem State.emit_clkDelay (s : State) (cs : List PlatformCall) : (s.emit cs).clkDelay = s.clkDelay := rfl
@[simp] theorem State.emit_clkSound (s : State) (cs : List PlatformCall) : (s.emit cs).clkSound = s.clkSound := rfl
@[simp] theorem State.emit_soundOn (s : State) (cs : List PlatformCall) : (s.emit cs).soundOn = s.soundOn := rfl
@[simp] theorem State.emit_settings (s : State) (cs : List PlatformCall) : (s.emit cs).settings = s.settings := rfl
@[simp] theorem State.emit_platform (s : State) (cs : List PlatformCall) : (s.emit cs).platform = ⟨s.platform.inbox, s.platform.quit, s.platform.calls ++ cs⟩ := rfl
@[simp] theorem State.emit_getV (s : State) (cs : List PlatformCall) (r : RegIdx) : (s.emit cs).getV r = s.getV r := rfl
@[simp] theorem State.emit_readByte (s : State) (cs : List PlatformCall) (c : Nat) : (s.emit cs).readByte c = s.readByte c := rfl
@[simp] theorem State.emit_pixel (s : State) (cs : List PlatformCall) (x' y' : Nat) : (s.emit cs).pixel x' y' = s.pixel x' y' := rfl

/-! `setInbox` -/

@[simp] theorem State.setInbox_v (s : State) (l : List Input) : (s.setInbox l).v = s.v := rfl
@[simp] theorem State.setInbox_i (s : State) (l : List Input) : (s.setInbox l).i = s.i := rfl
@[simp] theorem State.setInbox_pc (s : State) (l : List Input) : (s.setInbox l).pc = s.pc := rfl
@[simp] theorem State.setInbox_sp (s : State) (l : List Input) : (s.setInbox l).sp = s.sp := rfl
@[simp] theorem State.setInbox_stack (s : State) (l : List Input) : (s.setInbox l).stack = s.stack := rfl
@[simp] theorem State.setInbox_dt (s : State) (l : List Input) : (s.setInbox l).dt = s.dt := rfl
@[simp] theorem State.setInbox_st (s : State) (l : List Input) : (s.setInbox l).st = s.st := rfl
@[simp] theorem State.setInbox_fault (s : State) (l : List Input) : (s.setInbox l).fault = s.fault := rfl
@[simp] theorem State.setInbox_faulted (s : State) (l : List Input) : (s.setInbox l).faulted = s.faulted := rfl
@[simp] theorem State.setInbox_mem (s : State) (l : List Input) : (s.setInbox l).mem = s.mem := rfl
@[simp] theorem State.setInbox_fb (s : State) (l : List Input) : (s.setInbox l).fb = s.fb := rfl
@[simp] theorem State.setInbox_dirty (s : State) (l : List Input) : (s.setInbox l).dirty = s.dirty := rfl
@[simp] theorem State.setInbox_keys (s : State) (l : List Input) : (s.setInbox l).keys = s.keys := rfl
@[simp] theorem State.setInbox_waiting (s : State) (l : List Input) : (s.setInbox l).waiting = s.waiting := rfl
@[simp] theorem State.setInbox_pending (s : State) (l : List Input) : (s.setInbox l).pending = s.pending := rfl
@[simp] theorem State.setInbox_rng (s : State) (l : List Input) : (s.setInbox l).rng = s.rng := rfl
@[simp] theorem State.setInbox_clkCpu (s : State) (l : List Input) : (s.setInbox l).clkCpu = s.clkCpu := rfl
@[simp] theorem State.setInbox_clkDelay (s : State) (l : List Input) : (s.setInbox l).clkDelay = s.clkDelay := rfl
@[simp] theorem State.setInbox_clkSound (s : State) (l : List Input) : (s.setInbox l).clkSound = s.clkSound := rfl
@[simp] theorem State.setInbox_soundOn (s : State) (l : List Input) : (s.setInbox l).soundOn = s.soundOn := rfl
@[simp] theorem State.setInbox_settings (s : State) (l : List Input) : (s.setInbox l).settings = s.settings := rfl
@[simp] theorem State.setInbox_platform (s : State) (l : List Input) : (s.setInbox l).platform = ⟨l, s.platform.quit, s.platform.calls⟩ := rfl
@[simp] theorem State.setInbox_getV (s : State) (l : List Input) (r : RegIdx) : (s.setInbox l).getV r = s.getV r := rfl
@[simp] theorem State.setInbox_readByte (s : State) (l : List Input) (c : Nat) : (s.setInbox l).readByte c = s.readByte c := rfl
@[simp] theorem State.setInbox_pixel (s : State) (l : List Input) (x' y' : Nat) : (s.setInbox l).pixel x' y' = s.pixel x' y' := rfl

/-! `setClkCpu` -/

@[simp] theorem State.setClkCpu_v (s : State) (r : Rat) : (s.setClkCpu r).v = s.v := rfl
@[simp] theorem State.setClkCpu_i (s : State) (r : Rat) : (s.setClkCpu r).i = s.i := rfl
@[simp] theorem State.setClkCpu_pc (s : State) (r : Rat) : (s.setClkCpu r).pc = s.pc := rfl
@[simp] theorem State.setClkCpu_sp (s : State) (r : Rat) : (s.setClkCpu r).sp = s.sp := rfl
@[simp] theorem State.setClkCpu_stack (s : State) (r : Rat) : (s.setClkCpu r).stack = s.stack := rfl
@[simp] theorem State.setClkCpu_dt (s : State) (r : Rat) : (s.setClkCpu r).dt = s.dt := rfl
@[simp] theorem State.setClkCpu_st (s : State) (r : Rat) : (s.setClkCpu r).st = s.st := rfl
@[simp] theorem State.setClkCpu_fault (s : State) (r : Rat) : (s.setClkCpu r).fault = s.fault := rfl
@[simp] theorem State.setClkCpu_faulted (s : State) (r : Rat) : (s.setClkCpu r).faulted = s.faulted := rfl
@[simp] theorem State.setClkCpu_mem (s : State) (r : Rat) : (s.setClkCpu r).mem = s.mem := rfl
@[simp] theorem State.setClkCpu_fb (s : State) (r : Rat) : (s.setClkCpu r).fb = s.fb := rfl
@[simp] theorem State.setClkCpu_dirty (s : State) (r : Rat) : (s.setClkCpu r).dirty = s.dirty := rfl
@[simp] theorem State.setClkCpu_keys (s : State) (r : Rat) : (s.setClkCpu r).keys = s.keys := rfl
@[simp] theorem State.setClkCpu_waiting (s : State) (r : Rat) : (s.setClkCpu r).waiting = s.waiting := rfl
@[simp] theorem State.setClkCpu_pending (s : State) (r : Rat) : (s.setClkCpu r).pending = s.pending := rfl
@[simp] theorem State.setClkCpu_rng (s : State) (r : Rat) : (s.setClkCpu r).rng = s.rng := rfl
@[simp] theorem State.setClkCpu_clkCpu (s : State) (r : Rat) : (s.setClkCpu r).clkCpu = r := rfl
@[simp] theorem State.setClkCpu_clkDelay (s : State) (r : Rat) : (s.setClkCpu r).clkDelay = s.clkDelay := rfl
@[simp] theorem State.setClkCpu_clkSound (s : State) (r : Rat) : (s.setClkCpu r).clkSound = s.clkSound := rfl
@[simp] theorem State.setClkCpu_soundOn (s : State) (r : Rat) : (s.setClkCpu r).soundOn = s.soundOn := rfl
@[simp] theorem State.setClkCpu_settings (s : State) (r : Rat) : (s.setClkCpu r).settings = s.settings := rfl
@[simp] theorem State.setClkCpu_platform (s : State) (r : Rat) : (s.setClkCpu r).platform = s.platform := rfl
@[simp] theorem State.setClkCpu_getV (s : State) (r : Rat) (k : RegIdx) : (s.setClkCpu r).getV k = s.getV k := rfl
@[simp] theorem State.setClkCpu_readByte (s : State) (r : Rat) (c : Nat) : (s.setClkCpu r).readByte c = s.readByte c := rfl
@[simp] theorem State.setClkCpu_pixel (s : State) (r : Rat) (x' y' : Nat) : (s.setClkCpu r).pixel x' y' = s.pixel x' y' := rfl

/-! `setClkDelay` -/

@[simp] theorem State.setClkDelay_v (s : State) (r : Rat) : (s.setClkDelay r).v = s.v := rfl
@[simp] theorem State.setClkDelay_i (s : State) (r : Rat) : (s.setClkDelay r).i = s.i := rfl
@[simp] theorem State.setClkDelay_pc (s : State) (r : Rat) : (s.setClkDelay r).pc = s.pc := rfl
@[simp] theorem State.setClkDelay_sp (s : State) (r : Rat) : (s.setClkDelay r).sp = s.sp := rfl
@[simp] theorem State.setClkDelay_stack (s : State) (r : Rat) : (s.setClkDelay r).stack = s.stack := rfl
@[simp] theorem State.setClkDelay_dt (s : State) (r : Rat) : (s.setClkDelay r).dt = s.dt := rfl
@[simp] theorem State.setClkDelay_st (s : State) (r : Rat) : (s.setClkDelay r).st = s.st := rfl
@[simp] theorem State.setClkDelay_fault (s : State) (r : Rat) : (s.setClkDelay r).fault = s.fault := rfl
@[simp] theorem State.setClkDelay_faulted (s : State) (r : Rat) : (s.setClkDelay r).faulted = s.faulted := rfl
@[simp] theorem State.setClkDelay_mem (s : State) (r : Rat) : (s.setClkDelay r).mem = s.mem := rfl
@[simp] theorem State.setClkDelay_fb (s : State) (r : Rat) : (s.setClkDelay r).fb = s.fb := rfl
@[simp] theorem State.setClkDelay_dirty (s : State) (r : Rat) : (s.setClkDelay r).dirty = s.dirty := rfl
@[simp] theorem State.setClkDelay_keys (s : State) (r : Rat) : (s.setClkDelay r).keys = s.keys := rfl
@[simp] theorem State.setClkDelay_waiting (s : State) (r : Rat) : (s.setClkDelay r).waiting = s.waiting := rfl
@[simp] theorem State.setClkDelay_pending (s : State) (r : Rat) : (s.setClkDelay r).pending = s.pending := rfl
@[simp] theorem State.setClkDelay_rng (s : State) (r : Rat) : (s.setClkDelay r).rng = s.rng := rfl
@[simp] theorem State.setClkDelay_clkCpu (s : State) (r : Rat) : (s.setClkDelay r).clkCpu = s.clkCpu := rfl
@[simp] theorem State.setClkDelay_clkDelay (s : State) (r : Rat) : (s.setClkDelay r).clkDelay = r := rfl
@[simp] theorem State.setClkDelay_clkSound (s : State) (r : Rat) : (s.setClkDelay r).clkSound = s.clkSound := rfl
@[simp] theorem State.setClkDelay_soundOn (s : State) (r : Rat) : (s.setClkDelay r).soundOn = s.soundOn := rfl
@[simp] theorem State.setClkDelay_settings (s : State) (r : Rat) : (s.setClkDelay r).settings = s.settings := rfl
@[simp] theorem State.setClkDelay_platform (s : State) (r : Rat) : (s.setClkDelay r).platform = s.platform := rfl
@[simp] theorem State.setClkDelay_getV (s : State) (r : Rat) (k : RegIdx) : (s.setClkDelay r).getV k = s.getV k := rfl
@[simp] theorem State.setClkDelay_readByte (s : State) (r : Rat) (c : Nat) : (s.setClkDelay r).readByte c = s.readByte c := rfl
@[simp] theorem State.setClkDelay_pixel (s : State) (r : Rat) (x' y' : Nat) : (s.setClkDelay r).pixel x' y' = s.pixel x' y' := rfl

/-! `setClkSound` -/

@[simp] theorem State.setClkSound_v (s : State) (r : Rat) : (s.setClkSound r).v = s.v := rfl
@[simp] theorem State.setClkSound_i (s : State) (r : Rat) : (s.setClkSound r).i = s.i := rfl
@[simp] theorem State.setClkSound_pc (s : State) (r : Rat) : (s.setClkSound r).pc = s.pc := rfl
@[simp] theorem State.setClkSound_sp (s : State) (r : Rat) : (s.setClkSound r).sp = s.sp := rfl
@[simp] theorem State.setClkSound_stack (s : State) (r : Rat) : (s.setClkSound r).stack = s.stack := rfl
@[simp] theorem State.setClkSound_dt (s : State) (r : Rat) : (s.setClkSound r).dt = s.dt := rfl
@[simp] theorem State.setClkSound_st (s : State) (r : Rat) : (s.setClkSound r).st = s.st := rfl
@[simp] theorem State.setClkSound_fault (s : State) (r : Rat) : (s.setClkSound r).fault = s.fault := rfl
@[simp] theorem State.setClkSound_faulted (s : State) (r : Rat) : (s.setClkSound r).faulted = s.faulted := rfl
@[simp] theorem State.setClkSound_mem (s : State) (r : Rat) : (s.setClkSound r).mem = s.mem := rfl
@[simp] theorem State.setClkSound_fb (s : State) (r : Rat) : (s.setClkSound r).fb = s.fb := rfl
@[simp] theorem State.setClkSound_dirty (s : State) (r : Rat) : (s.setClkSound r).dirty = s.dirty := rfl
@[simp] theorem State.setClkSound_keys (s : State) (r : Rat) : (s.setClkSound r).keys = s.keys := rfl
@[simp] theorem State.setClkSound_waiting (s : State) (r : Rat) : (s.setClkSound r).waiting = s.waiting := rfl
@[simp] theorem State.setClkSound_pending (s : State) (r : Rat) : (s.setClkSound r).pending = s.pending := rfl
@[simp] theorem State.setClkSound_rng (s : State) (r : Rat) : (s.setClkSound r).rng = s.rng := rfl
@[simp] theorem State.setClkSound_clkCpu (s : State) (r : Rat) : (s.setClkSound r).clkCpu = s.clkCpu := rfl
@[simp] theorem State.setClkSound_clkDelay (s : State) (r : Rat) : (s.setClkSound r).clkDelay = s.clkDelay := rfl
@[simp] theorem State.setClkSound_clkSound (s : State) (r : Rat) : (s.setClkSound r).clkSound = r := rfl
@[simp] theorem State.setClkSound_soundOn (s : State) (r : Rat) : (s.setClkSound r).soundOn = s.soundOn := rfl
@[simp] theorem State.setClkSound_settings (s : State) (r : Rat) : (s.setClkSound r).settings = s.settings := rfl
@[simp] theorem State.setClkSound_platform (s : State) (r : Rat) : (s.setClkSound r).platform = s.platform := rfl
@[simp] theorem State.setClkSound_getV (s : State) (r : Rat) (k : RegIdx) : (s.setClkSound r).getV k = s.getV k := rfl
@[simp] theorem State.setClkSound_readByte (s : State) (r : Rat) (c : Nat) : (s.setClkSound r).readByte c = s.readByte c := rfl
@[simp] theorem State.setClkSound_pixel (s : State) (r : Rat) (x' y' : Nat) : (s.setClkSound r).pixel x' y' = s.pixel x' y' := rfl

/-! `setSoundOn` -/

@[simp] theorem State.setSoundOn_v (s : State) (b : Bool) : (s.setSoundOn b).v = s.v := rfl
@[simp] theorem State.setSoundOn_i (s : State) (b : Bool) : (s.setSoundOn b).i = s.i := rfl
@[simp] theorem State.setSoundOn_pc (s : State) (b : Bool) : (s.setSoundOn b).pc = s.pc := rfl
@[simp] theorem State.setSoundOn_sp (s : State) (b : Bool) : (s.setSoundOn b).sp = s.sp := rfl
@[simp] theorem State.setSoundOn_stack (s : State) (b : Bool) : (s.setSoundOn b).stack = s.stack := rfl
@[simp] theorem State.setSoundOn_dt (s : State) (b : Bool) : (s.setSoundOn b).dt = s.dt := rfl
@[simp] theorem State.setSoundOn_st (s : State) (b : Bool) : (s.setSoundOn b).st = s.st := rfl
@[simp] theorem State.setSoundOn_fault (s : State) (b : Bool) : (s.setSoundOn b).fault = s.fault := rfl
@[simp] theorem State.setSoundOn_faulted (s : State) (b : Bool) : (s.setSoundOn b).faulted = s.faulted := rfl
@[simp] theorem State.setSoundOn_mem (s : State) (b : Bool) : (s.setSoundOn b).mem = s.mem := rfl
@[simp] theorem State.setSoundOn_fb (s : State) (b : Bool) : (s.setSoundOn b).fb = s.fb := rfl
@[simp] theorem State.setSoundOn_dirty (s : State) (b : Bool) : (s.setSoundOn b).dirty = s.dirty := rfl
@[simp] theorem State.setSoundOn_keys (s : State) (b : Bool) : (s.setSoundOn b).keys = s.keys := rfl
@[simp] theorem State.setSoundOn_waiting (s : State) (b : Bool) : (s.setSoundOn b).waiting = s.waiting := rfl
@[simp] theorem State.setSoundOn_pending (s : State) (b : Bool) : (s.setSoundOn b).pending = s.pending := rfl
@[simp] theorem State.setSoundOn_rng (s : State) (b : Bool) : (s.setSoundOn b).rng = s.rng := rfl
@[simp] theorem State.setSoundOn_clkCpu (s : State) (b : Bool) : (s.setSoundOn b).clkCpu = s.clkCpu := rfl
@[simp] theorem State.setSoundOn_clkDelay (s : State) (b : Bool) : (s.setSoundOn b).clkDelay = s.clkDelay := rfl
@[simp] theorem State.setSoundOn_clkSound (s : State) (b : Bool) : (s.setSoundOn b).clkSound = s.clkSound := rfl
@[simp] theorem State.setSoundOn_soundOn (s : State) (b : Bool) : (s.setSoundOn b).soundOn = b := rfl
@[simp] theorem State.setSoundOn_settings (s : State) (b : Bool) : (s.setSoundOn b).settings = s.settings := rfl
@[simp] theorem State.setSoundOn_platform (s : State) (b : Bool) : (s.setSoundOn b).platform = s.platform := rfl
@[simp] theorem State.setSoundOn_getV (s : State) (b : Bool) (r : RegIdx) : (s.setSoundOn b).getV r = s.getV r := rfl
@[simp] theorem State.setSoundOn_readByte (s : State) (b : Bool) (c : Nat) : (s.setSoundOn b).readByte c = s.readByte c := rfl
@[simp] theorem State.setSoundOn_pixel (s : State) (b : Bool) (x' y' : Nat) : (s.setSoundOn b).pixel x' y' = s.pixel x' y' := rfl

/-! `quitLoop` -/

@[simp] theorem State.quitLoop_v (s : State) : (s.quitLoop).v = s.v := rfl
@[simp] theorem State.quitLoop_i (s : State) : (s.quitLoop).i = s.i := rfl
@[simp] theorem State.quitLoop_pc (s : State) : (s.quitLoop).pc = s.pc := rfl
@[simp] theorem State.quitLoop_sp (s : State) : (s.quitLoop).sp = s.sp := rfl
@[simp] theorem State.quitLoop_stack (s : State) : (s.quitLoop).stack = s.stack := rfl
@[simp] theorem State.quitLoop_dt (s : State) : (s.quitLoop).dt = s.dt := rfl
@[simp] theorem State.quitLoop_st (s : State) : (s.quitLoop).st = s.st := rfl
@[simp] theorem State.quitLoop_fault (s : State) : (s.quitLoop).fault = s.fault := rfl
@[simp] theorem State.quitLoop_faulted (s : State) : (s.quitLoop).faulted = s.faulted := rfl
@[simp] theorem State.quitLoop_mem (s : State) : (s.quitLoop).mem = s.mem := rfl
@[simp] theorem State.quitLoop_fb (s : State) : (s.quitLoop).fb = s.fb := rfl
@[simp] theorem State.quitLoop_dirty (s : State) : (s.quitLoop).dirty = s.dirty := rfl
@[simp] theorem State.quitLoop_keys (s : State) : (s.quitLoop).keys = s.keys := rfl
@[simp] theorem State.quitLoop_waiting (s : State) : (s.quitLoop).waiting = s.waiting := rfl
@[simp] theorem State.quitLoop_pending (s : State) : (s.quitLoop).pending = s.pending := rfl
@[simp] theorem State.quitLoop_rng (s : State) : (s.quitLoop).rng = s.rng := rfl
@[simp] theorem State.quitLoop_clkCpu (s : State) : (s.quitLoop).clkCpu = s.clkCpu := rfl
@[simp] theorem State.quitLoop_clkDelay (s : State) : (s.quitLoop).clkDelay = s.clkDelay := rfl
@[simp] theorem State.quitLoop_clkSound (s : State) : (s.quitLoop).clkSound = s.clkSound := rfl
@[simp] theorem State.quitLoop_soundOn (s : State) : (s.quitLoop).soundOn = s.soundOn := rfl
@[simp] theorem State.quitLoop_settings (s : State) : (s.quitLoop).settings = s.settings := rfl
@[simp] theorem State.quitLoop_platform (s : State) : (s.quitLoop).platform = ⟨s.platform.inbox, true, s.platform.calls⟩ := rfl
@[simp] theorem State.quitLoop_getV (s : State) (r : RegIdx) : (s.quitLoop).getV r = s.getV r := rfl
@[simp] theorem State.quitLoop_readByte (s : State) (c : Nat) : (s.quitLoop).readByte c = s.readByte c := rfl
@[simp] theorem State.quitLoop_pixel (s : State) (x' y' : Nat) : (s.quitLoop).pixel x' y' = s.pixel x' y' := rfl

end Sys2Proof.Machine
end

