-- ==== Sys2Proof/Laws/Memory.lean ====
section
/-! SUPPORT. Memory: a read after a write, and every memory operation keeps the canonical form. -/

namespace Sys2Proof.Machine

theorem readCell_eraseCell (base : Nat) (m : Memory) (a b : Nat) :
    readCell base (eraseCell m a) b = if b = a then resetByte base b else readCell base m b := by
  induction m with
  | nil => simp [eraseCell, readCell]
  | cons c rest ih =>
    obtain ⟨d, u⟩ := c
    by_cases hda : d = a
    · subst hda
      by_cases hb : b = d
      · subst hb; simpa [eraseCell] using ih
      · simp [eraseCell, readCell, ih, hb, Ne.symm hb]
    · by_cases hdb : d = b
      · subst hdb; simp [eraseCell, readCell, hda]
      · simp [eraseCell, readCell, hda, hdb, ih]

theorem readCell_putCell (base : Nat) (m : Memory) (a : Nat) (x : Byte) (b : Nat) :
    readCell base (putCell m a x) b = if b = a then x else readCell base m b := by
  induction m with
  | nil =>
    by_cases h : b = a
    · simp [putCell, readCell, h]
    · simp [putCell, readCell, h, Ne.symm h]
  | cons c rest ih =>
    obtain ⟨d, u⟩ := c
    by_cases h1 : a < d
    · by_cases h : b = a
      · simp [putCell, readCell, h1, h]
      · simp [putCell, readCell, h1, h, Ne.symm h]
    · by_cases h2 : d = a
      · subst h2
        by_cases h : b = d
        · simp [putCell, readCell, h]
        · simp [putCell, readCell, h, Ne.symm h]
      · by_cases h3 : d = b
        · subst h3; simp [putCell, readCell, h1, h2]
        · simp [putCell, readCell, h1, h2, h3, ih]

/-- A read after a write, whatever the list of cells. -/
theorem readCell_writeCell (base : Nat) (m : Memory) (a : Nat) (x : Byte) (b : Nat) :
    readCell base (writeCell base m a x) b = if b = a then x else readCell base m b := by
  unfold writeCell
  split
  · rename_i h
    rw [readCell_eraseCell]
    by_cases hb : b = a <;> simp [hb, h]
  · exact readCell_putCell base m a x b

theorem mem_eraseCell {m : Memory} {a : Nat} {c : Host.Cell} (h : c ∈ eraseCell m a) : c ∈ m := by
  induction m with
  | nil => simp [eraseCell] at h
  | cons d rest ih =>
    obtain ⟨d, u⟩ := d
    by_cases hd : d = a
    · simp only [eraseCell, hd, if_true] at h
      exact List.mem_cons_of_mem _ (ih h)
    · simp only [eraseCell, hd, if_false, List.mem_cons] at h ⊢
      exact h.imp id ih

theorem mem_putCell {m : Memory} {a : Nat} {x : Byte} {c : Host.Cell} (h : c ∈ putCell m a x) :
    c = (a, x) ∨ c ∈ m := by
  induction m with
  | nil => left; simpa [putCell] using h
  | cons d rest ih =>
    obtain ⟨d, u⟩ := d
    simp only [putCell] at h
    split at h
    · simpa using h
    · split at h
      · rcases List.mem_cons.mp h with h | h
        · exact .inl h
        · exact .inr (List.mem_cons_of_mem _ h)
      · rcases List.mem_cons.mp h with h | h
        · exact .inr (h ▸ List.mem_cons_self)
        · exact (ih h).imp id (List.mem_cons_of_mem _)

theorem eraseCell_sorted {m : Memory} (a : Nat) (h : m.Pairwise (fun c d => c.1 < d.1)) :
    (eraseCell m a).Pairwise (fun c d => c.1 < d.1) := by
  induction m with
  | nil => simp [eraseCell]
  | cons d rest ih =>
    obtain ⟨d, u⟩ := d
    rw [List.pairwise_cons] at h
    by_cases hd : d = a
    · simpa [eraseCell, hd] using ih h.2
    · simp only [eraseCell, hd, if_false, List.pairwise_cons]
      exact ⟨fun c hc => h.1 c (mem_eraseCell hc), ih h.2⟩

theorem putCell_sorted {m : Memory} (a : Nat) (x : Byte) (h : m.Pairwise (fun c d => c.1 < d.1)) :
    (putCell m a x).Pairwise (fun c d => c.1 < d.1) := by
  induction m with
  | nil => simp [putCell]
  | cons d rest ih =>
    obtain ⟨d, u⟩ := d
    have h' := List.pairwise_cons.mp h
    simp only [putCell]
    split
    · rename_i hlt
      refine List.pairwise_cons.mpr ⟨fun c hc => ?_, h⟩
      rcases List.mem_cons.mp hc with rfl | hc
      · exact hlt
      · exact lt_trans hlt (h'.1 c hc)
    · split
      · rename_i he
        subst he
        exact List.pairwise_cons.mpr ⟨h'.1, h'.2⟩
      · rename_i h1 h2
        refine List.pairwise_cons.mpr ⟨fun c hc => ?_, ih h'.2⟩
        rcases mem_putCell hc with rfl | hc
        · exact lt_of_le_of_ne (not_lt.mp h1) h2
        · exact h'.1 c hc

/-- Writing a cell inside the address space keeps the canonical form. -/
theorem writeCell_wf {base : Nat} {m : Memory} (h : Memory.wf base m) {a : Nat} (ha : a < 4096) (x : Byte) :
    Memory.wf base (writeCell base m a x) := by
  unfold writeCell
  split
  · exact ⟨eraseCell_sorted a h.1, fun c hc => h.2 c (mem_eraseCell hc)⟩
  · rename_i hx
    refine ⟨putCell_sorted a x h.1, fun c hc => ?_⟩
    rcases mem_putCell hc with rfl | hc
    · exact ⟨ha, hx⟩
    · exact h.2 c hc

/-- `MemWrite` keeps the canonical form. -/
theorem State.writeByte_memOk {s : State} (h : s.MemOk) (a : Nat) (x : Byte) : (s.writeByte a x).MemOk :=
  writeCell_wf h (Nat.mod_lt _ (by decide)) x

/-- `MemRead` after `MemWrite` (20_memory.md R41, R42). -/
theorem State.readByte_writeByte (s : State) (a : Nat) (x : Byte) (b : Nat) :
    (s.writeByte a x).readByte b = if b % 4096 = a % 4096 then x else s.readByte b :=
  readCell_writeCell _ _ _ _ _

theorem State.writeBytes_memOk {s : State} (h : s.MemOk) (a : Nat) (l : List Byte) : (s.writeBytes a l).MemOk := by
  induction l generalizing s a with
  | nil => exact h
  | cons b rest ih => exact ih (s.writeByte_memOk h a b) (a + 1)

/-- The memory after reset lists nothing and is canonical. -/
theorem State.init_memOk (c : Settings) : (State.init c).MemOk := by
  simp [State.MemOk, State.init, Memory.wf]

/-- Memory after reset is in its canonical form. -/
theorem State.reset_memOk : State.reset.MemOk := State.init_memOk Settings.default

/-- Placing a word keeps the canonical form. -/
theorem State.placeWord_memOk {s : State} (h : s.MemOk) (w : Word) : (s.placeWord w).MemOk :=
  State.writeBytes_memOk h _ _

end Sys2Proof.Machine
end

