-- ==== Sys2Proof/Laws/Registers.lean ====
section
/-! SUPPORT. General registers, and how frames compose. -/

namespace Sys2Proof.Machine

/-- `V[r]` after `V[x] <- b`. -/
theorem State.getV_setV (s : State) (x : RegIdx) (b : Byte) (r : RegIdx) :
    (s.setV x b).getV r = if r = x then b else s.getV r := by
  simp only [State.getV, State.setV, Vector.getElem_set]
  by_cases h : r = x
  · simp [h]
  · have : x.toNat ≠ r.toNat := fun e => h (BitVec.eq_of_toNat_eq e.symm)
    simp [h, this]

@[simp] theorem State.getV_setV_self (s : State) (x : RegIdx) (b : Byte) : (s.setV x b).getV x = b := by
  simp [State.getV_setV]

theorem Frame.refl (s : State) (w : List Field) : Frame w s s := by
  intro f _
  cases f <;> simp [Field.Same]

theorem Field.Same.trans {f : Field} {s t u : State} (h : f.Same s t) (k : f.Same t u) : f.Same s u := by
  cases f <;> simp_all [Field.Same]

theorem Frame.trans {w : List Field} {s t u : State} (h : Frame w s t) (k : Frame w t u) : Frame w s u :=
  fun f hf => (h f hf).trans (k f hf)

theorem Frame.mono {w w' : List Field} {s t : State} (hw : ∀ f ∈ w, f ∈ w') (h : Frame w s t) : Frame w' s t :=
  fun f hf => h f (fun m => hf (hw f m))

theorem SameV.refl (s : State) (w : List RegIdx) : SameV w s s := fun _ _ => rfl

theorem SameV.trans {w : List RegIdx} {s t u : State} (h : SameV w s t) (k : SameV w t u) : SameV w s u :=
  fun r hr => (k r hr).trans (h r hr)

theorem SameV.setV (s : State) (x : RegIdx) (b : Byte) {w : List RegIdx} (h : x ∈ w) : SameV w s (s.setV x b) := by
  intro r hr
  rw [State.getV_setV, if_neg]
  rintro rfl
  exact hr h

/-! What each update leaves unchanged. -/

theorem Frame.setV (s : State) (x : RegIdx) (b : Byte) : Frame [.v] s (s.setV x b) := by
  intro f hf; cases f <;> simp_all [Field.Same]
theorem Frame.setI (s : State) (w : Word) : Frame [.i] s (s.setI w) := by
  intro f hf; cases f <;> simp_all [Field.Same]
theorem Frame.setPc (s : State) (w : Word) : Frame [.pc] s (s.setPc w) := by
  intro f hf; cases f <;> simp_all [Field.Same]
theorem Frame.skipIf (s : State) (c : Bool) : Frame [.pc] s (s.skipIf c) := by
  unfold State.skipIf
  split
  · exact Frame.setPc s _
  · exact Frame.refl s _
theorem Frame.setDT (s : State) (b : Byte) : Frame [.dt] s (s.setDT b) := by
  intro f hf; cases f <;> simp_all [Field.Same]
theorem Frame.setST (s : State) (b : Byte) : Frame [.st] s (s.setST b) := by
  intro f hf; cases f <;> simp_all [Field.Same]
theorem Frame.pushPc (s : State) : Frame [.sp, .stack] s s.pushPc := by
  intro f hf; cases f <;> simp_all [Field.Same]
theorem Frame.popPc (s : State) : Frame [.sp, .pc] s s.popPc := by
  intro f hf; cases f <;> simp_all [Field.Same]
theorem Frame.raise (s : State) (k : FaultKind) (w : Word) : Frame [.fault] s (s.raise k w) := by
  intro f hf; cases f <;> simp_all [Field.Same]
theorem Frame.writeByte (s : State) (a : Nat) (b : Byte) : Frame [.mem] s (s.writeByte a b) := by
  intro f hf; cases f <;> simp_all [Field.Same]
theorem Frame.rngNext (s : State) : Frame [.rng] s s.rngNext.1 := by
  intro f hf; cases f <;> simp_all [Field.Same]
theorem Frame.displayClear (s : State) : Frame [.fb, .dirty] s s.displayClear := by
  intro f hf; cases f <;> simp_all [Field.Same]
theorem Frame.consumeDirty (s : State) : Frame [.dirty] s s.consumeDirty.1 := by
  intro f hf; cases f <;> simp_all [Field.Same]
theorem Frame.setKeys (s : State) (l : KeyLevels) : Frame [.keys] s (s.setKeys l) := by
  intro f hf; cases f <;> simp_all [Field.Same]
theorem Frame.setLatch (s : State) (w : Bool) (p : Option Key) : Frame [.waiting, .pending] s (s.setLatch w p) := by
  intro f hf; cases f <;> simp_all [Field.Same]
theorem Frame.emit (s : State) (cs : List PlatformCall) : Frame [.platform] s (s.emit cs) := by
  intro f hf; cases f <;> simp_all [Field.Same]
theorem Frame.setInbox (s : State) (l : List Input) : Frame [.platform] s (s.setInbox l) := by
  intro f hf; cases f <;> simp_all [Field.Same]
theorem Frame.setClkCpu (s : State) (r : Rat) : Frame [.clkCpu] s (s.setClkCpu r) := by
  intro f hf; cases f <;> simp_all [Field.Same]
theorem Frame.setClkDelay (s : State) (r : Rat) : Frame [.clkDelay] s (s.setClkDelay r) := by
  intro f hf; cases f <;> simp_all [Field.Same]
theorem Frame.setClkSound (s : State) (r : Rat) : Frame [.clkSound] s (s.setClkSound r) := by
  intro f hf; cases f <;> simp_all [Field.Same]
theorem Frame.setSoundOn (s : State) (b : Bool) : Frame [.soundOn] s (s.setSoundOn b) := by
  intro f hf; cases f <;> simp_all [Field.Same]
theorem Frame.quitLoop (s : State) : Frame [.platform] s s.quitLoop := by
  intro f hf; cases f <;> simp_all [Field.Same]

/-- The key latch: what `poll_wait` answers and writes, in its three cases (R143). -/
theorem State.pollWait_cases (s : State) :
    (s.waiting = false ∧ s.pollWait = (s.setLatch true none, none)) ∨
      (∃ k, s.waiting = true ∧ s.pending = some k ∧ s.pollWait = (s.setLatch false none, some k)) ∨
        (s.waiting = true ∧ s.pending = none ∧ s.pollWait = (s, none)) := by
  cases hw : s.waiting
  · exact .inl ⟨rfl, by simp [State.pollWait, hw]⟩
  · cases hp : s.pending with
    | none => exact .inr (.inr ⟨rfl, rfl, by simp [State.pollWait, hw, hp]⟩)
    | some k => exact .inr (.inl ⟨k, rfl, rfl, by simp [State.pollWait, hw, hp]⟩)

/-- A pushed key press changes at most the pending press (R142). -/
theorem Frame.pushEvent (s : State) (k : Key) : Frame [.pending] s (s.pushEvent k) := by
  unfold State.pushEvent
  split
  · intro f hf; cases f <;> simp_all [Field.Same]
  · exact Frame.refl s _

end Sys2Proof.Machine
end

