-- ==== Sys2Proof/Laws/Blocks.lean ====
section
/-! SUPPORT. Register blocks in memory: what STRR stores and LDRR loads (43_index_memory.md R125, R126), and the
conditional increment of `I`. -/

namespace Sys2Proof.Machine

theorem Frame.storeBlock (s : State) (k : Nat) : Frame [.mem] s (s.storeBlock k) := by
  induction k with
  | zero => exact Frame.refl s _
  | succ k ih => exact ih.trans (Frame.writeByte _ _ _)

theorem Frame.loadBlock (s : State) (k : Nat) : Frame [.v] s (s.loadBlock k) := by
  induction k with
  | zero => exact Frame.refl s _
  | succ k ih => exact ih.trans (Frame.setV _ _ _)

theorem Frame.bumpI (s : State) (x : RegIdx) : Frame [.i] s (s.bumpI x) := by
  unfold State.bumpI
  split
  · exact Frame.setI s _
  · exact Frame.refl s _

theorem State.bumpI_i (s : State) (x : RegIdx) :
    (s.bumpI x).i = if s.settings.loadStoreQuirk then s.i + x.setWidth 16 + 1 else s.i := by
  unfold State.bumpI
  split <;> rfl

@[simp] theorem State.bumpI_readByte (s : State) (x : RegIdx) (a : Nat) :
    (s.bumpI x).readByte a = s.readByte a := Frame.bumpI s x .mem (by decide) a

@[simp] theorem State.bumpI_getV (s : State) (x r : RegIdx) : (s.bumpI x).getV r = s.getV r :=
  Frame.bumpI s x .v (by decide) r

theorem State.bumpI_mem (s : State) (x : RegIdx) : (s.bumpI x).mem = s.mem := by
  unfold State.bumpI
  split <;> rfl

/-- Every address the block does not cover reads as before. -/
theorem State.storeBlock_outside (s : State) (k b : Nat) (h : ∀ j, j < k → b % 4096 ≠ (s.i.toNat + j) % 4096) :
    (s.storeBlock k).readByte b = s.readByte b := by
  induction k with
  | zero => rfl
  | succ k ih =>
    rw [State.storeBlock, State.readByte_writeByte, if_neg (by simpa using h k (Nat.lt_succ_self k))]
    exact ih (fun j hj => h j (Nat.lt_succ_of_lt hj))

/-- Address `I + j` of a block of at most 4096 bytes holds `V[j]`. -/
theorem State.storeBlock_at (s : State) (k j : Nat) (hk : k ≤ 4096) (hj : j < k) :
    (s.storeBlock k).readByte (s.i.toNat + j) = s.getV (BitVec.ofNat 4 j) := by
  induction k with
  | zero => omega
  | succ k ih =>
    rw [State.storeBlock, State.readByte_writeByte]
    by_cases h : j = k
    · simp [h]
    · rw [if_neg (by simp only [State.indexed_eq]; omega)]
      exact ih (by omega) (by omega)

theorem State.storeBlock_memOk {s : State} (h : s.MemOk) (k : Nat) : (s.storeBlock k).MemOk := by
  induction k with
  | zero => exact h
  | succ k ih => exact State.writeByte_memOk ih _ _

/-- A block load writes the registers below `k` and no other. -/
theorem State.loadBlock_getV (s : State) (k : Nat) (hk : k ≤ 16) (r : RegIdx) :
    (s.loadBlock k).getV r = if r.toNat < k then s.readByte (s.i.toNat + r.toNat) else s.getV r := by
  induction k with
  | zero => simp [State.loadBlock]
  | succ k ih =>
    rw [State.loadBlock, State.getV_setV, ih (by omega)]
    by_cases h : r = BitVec.ofNat 4 k
    · have hr : r.toNat = k := by rw [h, BitVec.toNat_ofNat]; omega
      rw [if_pos h, if_pos (by omega), State.indexed_eq, hr]
    · have hr : r.toNat ≠ k := fun e => h (by apply BitVec.eq_of_toNat_eq; rw [BitVec.toNat_ofNat]; omega)
      rw [if_neg h]
      by_cases h2 : r.toNat < k
      · rw [if_pos h2, if_pos (by omega)]
      · rw [if_neg h2, if_neg (by omega)]

theorem State.loadBlock_mem (s : State) (k : Nat) : (s.loadBlock k).mem = s.mem := by
  induction k with
  | zero => rfl
  | succ k ih => exact ih

end Sys2Proof.Machine
end

