-- ==== Sys2Proof/Laws/Display.lean ====
section
/-! SUPPORT. The display operations: what a pixel write does, and that drawing touches the grid and its dirty flag
only. -/

namespace Sys2Proof.Machine

/-- A pixel of a grid with one pixel written (44_display.md R131). -/
theorem getElem_setCell (fb : Vector (Vector Bool 64) 32) (x y : Nat) (b : Bool) (X Y : Nat) (hX : X < 64)
    (hY : Y < 32) :
    (setCell fb x y b)[Y][X] = if X = x % 64 ∧ Y = y % 32 then b else fb[Y][X] := by
  unfold setCell
  by_cases hy : y % 32 = Y
  · subst hy
    by_cases hx : x % 64 = X
    · subst hx; simp
    · have : ¬ X = x % 64 := fun e => hx e.symm
      simp [hx, this]
  · have : ¬ Y = y % 32 := fun e => hy e.symm
    simp [hy, this]

/-- `set_pixel`: the XOR rule at `(x mod 64, y mod 32)`, every other pixel unchanged (R131). -/
theorem State.pixel_setPixel (s : State) (x y : Nat) (value : Bool) (X Y : Nat) :
    (s.setPixel x y value).1.pixel X Y =
      (s.pixel X Y ^^ (decide (X % 64 = x % 64 ∧ Y % 32 = y % 32) && value)) := by
  have hX : X % 64 < 64 := Nat.mod_lt _ (by decide)
  have hY : Y % 32 < 32 := Nat.mod_lt _ (by decide)
  cases value
  · simp [State.setPixel]
  · simp only [State.setPixel, if_true, State.pixel, Bool.and_true]
    rw [getElem_setCell _ _ _ _ _ _ hX hY]
    by_cases h : X % 64 = x % 64 ∧ Y % 32 = y % 32
    · obtain ⟨h1, h2⟩ := h
      simp [h1, h2]
    · simp [h]

/-- `set_pixel` answers whether a lit pixel became unlit (R131). -/
@[simp] theorem State.setPixel_erased (s : State) (x y : Nat) (value : Bool) :
    (s.setPixel x y value).2 = (s.pixel x y && value) := rfl

/-- `set_pixel` marks the display dirty exactly when it toggles the pixel (R131, D23). -/
theorem State.setPixel_dirty (s : State) (x y : Nat) (value : Bool) :
    (s.setPixel x y value).1.dirty = (s.dirty || value) := by
  cases value <;> simp [State.setPixel]

theorem Frame.setPixel (s : State) (x y : Nat) (value : Bool) : Frame [.fb, .dirty] s (s.setPixel x y value).1 := by
  unfold State.setPixel
  split
  · intro f hf
    cases f <;> simp_all [Field.Same]
    · exact fun _ => rfl
    · exact fun _ => rfl
  · exact Frame.refl s _

theorem Frame.drawRow (s : State) (x0 yy : Nat) (row : Byte) (k : Nat) :
    Frame [.fb, .dirty] s (s.drawRow x0 yy row k).1 := by
  induction k with
  | zero => exact Frame.refl s _
  | succ k ih => exact ih.trans (Frame.setPixel _ _ _ _)

theorem Frame.drawSprite (s : State) (x0 y0 k : Nat) : Frame [.fb, .dirty] s (s.drawSprite x0 y0 k).1 := by
  induction k with
  | zero => exact Frame.refl s _
  | succ k ih =>
    simp only [State.drawSprite]
    split
    · exact ih
    · exact ih.trans (Frame.drawRow _ _ _ _ _)

/-- Drawing leaves what is compared as data unchanged, memory among it. -/
theorem State.setPixel_mem (s : State) (x y : Nat) (value : Bool) :
    (s.setPixel x y value).1.mem = s.mem ∧ (s.setPixel x y value).1.v = s.v := by
  unfold State.setPixel
  split <;> exact ⟨rfl, rfl⟩

theorem State.drawRow_mem (s : State) (x0 yy : Nat) (row : Byte) (k : Nat) :
    (s.drawRow x0 yy row k).1.mem = s.mem ∧ (s.drawRow x0 yy row k).1.v = s.v := by
  induction k with
  | zero => exact ⟨rfl, rfl⟩
  | succ k ih =>
    exact ⟨(State.setPixel_mem _ _ _ _).1.trans ih.1, (State.setPixel_mem _ _ _ _).2.trans ih.2⟩

theorem State.drawSprite_mem (s : State) (x0 y0 k : Nat) :
    (s.drawSprite x0 y0 k).1.mem = s.mem ∧ (s.drawSprite x0 y0 k).1.v = s.v := by
  induction k with
  | zero => exact ⟨rfl, rfl⟩
  | succ k ih =>
    simp only [State.drawSprite]
    split
    · exact ih
    · exact ⟨(State.drawRow_mem _ _ _ _ _).1.trans ih.1, (State.drawRow_mem _ _ _ _ _).2.trans ih.2⟩

/-- A row is skipped exactly when `VERTICAL_WRAP` is off and it lies past the bottom edge (R134, D12). -/
theorem State.rowSkipped_eq (s : State) (y0 r : Nat) :
    s.rowSkipped y0 r = !(s.settings.verticalWrap || decide (y0 + r < 32)) := by
  unfold State.rowSkipped
  by_cases h : y0 + r < 32
  · have : ¬ y0 + r ≥ 32 := by omega
    simp [h, this]
  · have : y0 + r ≥ 32 := by omega
    simp [h, this]

/-- The cells a sprite covers, row by row and column by column (R134). -/
theorem State.spriteCovers_iff (s : State) (x0 y0 n X Y : Nat) :
    s.spriteCovers x0 y0 n X Y = true ↔ ∃ r c, r < n ∧ c < 8 ∧ (s.settings.verticalWrap = true ∨ y0 + r < 32) ∧
      (y0 + r) % 32 = Y ∧ (x0 + c) % 64 = X ∧ (s.readByte (s.i.toNat + r)).getLsbD (7 - c) = true := by
  simp only [State.spriteCovers, List.any_eq_true, List.mem_range, Bool.and_eq_true, Bool.or_eq_true,
    decide_eq_true_eq, beq_iff_eq]
  constructor
  · rintro ⟨r, hr, ⟨hv, hy⟩, c, hc, hx, hb⟩
    exact ⟨r, c, hr, hc, hv, hy, hx, hb⟩
  · rintro ⟨r, c, hr, hc, hv, hy, hx, hb⟩
    exact ⟨r, hr, ⟨hv, hy⟩, c, hc, hx, hb⟩

end Sys2Proof.Machine
end

