-- ==== Sys2Proof/Laws/Encoding.lean ====
section
/-! SUPPORT. The value of each format as a number, and of each field of a word (30_encoding.md R61, R62): with these
a claim about encodings is arithmetic. -/

namespace Sys2Proof

theorem formA_toNat (op : BitVec 4) (nnn : Addr12) : (formA op nnn).toNat = op.toNat * 4096 + nnn.toNat := by
  simp only [formA, BitVec.toNat_append]
  rw [← Nat.shiftLeft_add_eq_or_of_lt nnn.isLt, Nat.shiftLeft_eq]

theorem formXK_toNat (op : BitVec 4) (x : RegIdx) (kk : Byte) :
    (formXK op x kk).toNat = op.toNat * 4096 + x.toNat * 256 + kk.toNat := by
  have hx := x.isLt
  have hk := kk.isLt
  simp only [formXK, BitVec.toNat_append]
  rw [← Nat.shiftLeft_add_eq_or_of_lt hk, ← Nat.shiftLeft_add_eq_or_of_lt hx, Nat.shiftLeft_eq, Nat.shiftLeft_eq]
  omega

theorem formXYN_toNat (op : BitVec 4) (x y : RegIdx) (n : BitVec 4) :
    (formXYN op x y n).toNat = op.toNat * 4096 + x.toNat * 256 + y.toNat * 16 + n.toNat := by
  have hx := x.isLt
  have hy := y.isLt
  have hn := n.isLt
  simp only [formXYN, BitVec.toNat_append]
  rw [← Nat.shiftLeft_add_eq_or_of_lt hn, ← Nat.shiftLeft_add_eq_or_of_lt hy, ← Nat.shiftLeft_add_eq_or_of_lt hx,
    Nat.shiftLeft_eq, Nat.shiftLeft_eq, Nat.shiftLeft_eq]
  omega

theorem opField_toNat (w : Word) : (opField w).toNat = w.toNat / 4096 := by
  have := w.isLt
  simp only [opField, BitVec.extractLsb'_toNat, Nat.shiftRight_eq_div_pow]
  omega

theorem xField_toNat (w : Word) : (xField w).toNat = w.toNat / 256 % 16 := by
  simp only [xField, BitVec.extractLsb'_toNat, Nat.shiftRight_eq_div_pow]

theorem yField_toNat (w : Word) : (yField w).toNat = w.toNat / 16 % 16 := by
  simp only [yField, BitVec.extractLsb'_toNat, Nat.shiftRight_eq_div_pow]

theorem nField_toNat (w : Word) : (nField w).toNat = w.toNat % 16 := by
  simp [nField, BitVec.extractLsb'_toNat]

theorem kkField_toNat (w : Word) : (kkField w).toNat = w.toNat % 256 := by
  simp [kkField, BitVec.extractLsb'_toNat]

theorem nnnField_toNat (w : Word) : (nnnField w).toNat = w.toNat % 4096 := by
  simp [nnnField, BitVec.extractLsb'_toNat]

/-- The word of two bytes (R44). -/
theorem wordOfBytes_toNat (hi lo : Byte) : (wordOfBytes hi lo).toNat = hi.toNat * 256 + lo.toNat := by
  simp only [wordOfBytes, BitVec.toNat_append]
  rw [← Nat.shiftLeft_add_eq_or_of_lt lo.isLt, Nat.shiftLeft_eq]

/-! The fields of each format. -/

@[simp] theorem opField_formA (op : BitVec 4) (nnn : Addr12) : opField (formA op nnn) = op := by
  have := nnn.isLt
  apply BitVec.eq_of_toNat_eq; rw [opField_toNat, formA_toNat]; omega
@[simp] theorem nnnField_formA (op : BitVec 4) (nnn : Addr12) : nnnField (formA op nnn) = nnn := by
  have := nnn.isLt
  apply BitVec.eq_of_toNat_eq; rw [nnnField_toNat, formA_toNat]; omega

@[simp] theorem opField_formXK (op : BitVec 4) (x : RegIdx) (kk : Byte) : opField (formXK op x kk) = op := by
  have := x.isLt
  have := kk.isLt
  apply BitVec.eq_of_toNat_eq; rw [opField_toNat, formXK_toNat]; omega
@[simp] theorem xField_formXK (op : BitVec 4) (x : RegIdx) (kk : Byte) : xField (formXK op x kk) = x := by
  have := x.isLt
  have := kk.isLt
  apply BitVec.eq_of_toNat_eq; rw [xField_toNat, formXK_toNat]; omega
@[simp] theorem kkField_formXK (op : BitVec 4) (x : RegIdx) (kk : Byte) : kkField (formXK op x kk) = kk := by
  have := kk.isLt
  apply BitVec.eq_of_toNat_eq; rw [kkField_toNat, formXK_toNat]; omega

@[simp] theorem opField_formXYN (op : BitVec 4) (x y : RegIdx) (n : BitVec 4) : opField (formXYN op x y n) = op := by
  have := x.isLt
  have := y.isLt
  have := n.isLt
  apply BitVec.eq_of_toNat_eq; rw [opField_toNat, formXYN_toNat]; omega
@[simp] theorem xField_formXYN (op : BitVec 4) (x y : RegIdx) (n : BitVec 4) : xField (formXYN op x y n) = x := by
  have := x.isLt
  have := y.isLt
  have := n.isLt
  apply BitVec.eq_of_toNat_eq; rw [xField_toNat, formXYN_toNat]; omega
@[simp] theorem yField_formXYN (op : BitVec 4) (x y : RegIdx) (n : BitVec 4) : yField (formXYN op x y n) = y := by
  have := y.isLt
  have := n.isLt
  apply BitVec.eq_of_toNat_eq; rw [yField_toNat, formXYN_toNat]; omega
@[simp] theorem nField_formXYN (op : BitVec 4) (x y : RegIdx) (n : BitVec 4) : nField (formXYN op x y n) = n := by
  have := n.isLt
  apply BitVec.eq_of_toNat_eq; rw [nField_toNat, formXYN_toNat]; omega

/-- A list of two bytes or more decodes by the word of its first two. -/
theorem decodeBytes_cons_cons (hi lo : Byte) (rest : List Byte) :
    decodeBytes (hi :: lo :: rest) =
      match decode (wordOfBytes hi lo) with
      | .ok i => .ok (i, rest)
      | .error e => .error (.invalid e.word) := rfl

/-- The two bytes of a word make the word again (R44). -/
theorem wordOfBytes_bytesOfWord (w : Word) : wordOfBytes (w.extractLsb' 8 8) (w.extractLsb' 0 8) = w := by
  have := w.isLt
  apply BitVec.eq_of_toNat_eq
  rw [wordOfBytes_toNat]
  simp only [BitVec.extractLsb'_toNat, Nat.shiftRight_eq_div_pow]
  omega

end Sys2Proof
end

