-- ==== Sys2Proof/Laws/PerInstr.lean ====
section
/-! SUPPORT. Statements about every instruction as syntax, one lemma per constructor. The family `TableRow`: the encoding
of an instruction is a word of its own row of the opcode table (30_encoding.md R63). -/

namespace Sys2Proof.Laws.TableRow

/-- The opcode table has a row of the instruction's name, and it accepts the instruction's word. -/
def Statement (i : Instr) : Prop := ∃ r ∈ opcodeTable, r.mnemonic = mnemonic i ∧ r.accepts (encode i) = true

/-- A field under a mask of ones. -/
theorem and_ones {w : Nat} (a : BitVec w) : a &&& BitVec.allOnes w = a := BitVec.and_allOnes

theorem accepts_formA (op : BitVec 4) (nnn : Addr12) (name : String) :
    OpcodeRow.accepts ⟨name, 0xF000#16, formA op 0#12⟩ (formA op nnn) = true := by
  have h : (0xF000#16 : Word) = BitVec.allOnes 4 ++ 0#12 := by decide
  simp only [OpcodeRow.accepts, beq_iff_eq, formA]
  rw [h, BitVec.and_append, and_ones, BitVec.and_zero]

theorem accepts_formXK (op : BitVec 4) (x : RegIdx) (kk : Byte) (name : String) :
    OpcodeRow.accepts ⟨name, 0xF000#16, formXK op 0#4 0#8⟩ (formXK op x kk) = true := by
  have h : (0xF000#16 : Word) = BitVec.allOnes 4 ++ 0#4 ++ 0#8 := by decide
  simp only [OpcodeRow.accepts, beq_iff_eq, formXK]
  rw [h, BitVec.and_append, BitVec.and_append, and_ones, BitVec.and_zero, BitVec.and_zero]

theorem accepts_formXF (op : BitVec 4) (x : RegIdx) (sel : Byte) (name : String) :
    OpcodeRow.accepts ⟨name, 0xF0FF#16, formXK op 0#4 sel⟩ (formXK op x sel) = true := by
  have h : (0xF0FF#16 : Word) = BitVec.allOnes 4 ++ 0#4 ++ BitVec.allOnes 8 := by decide
  simp only [OpcodeRow.accepts, beq_iff_eq, formXK]
  rw [h, BitVec.and_append, BitVec.and_append, and_ones, and_ones, BitVec.and_zero]

theorem accepts_formXY (op : BitVec 4) (x y : RegIdx) (sel : BitVec 4) (name : String) :
    OpcodeRow.accepts ⟨name, 0xF00F#16, formXYN op 0#4 0#4 sel⟩ (formXYN op x y sel) = true := by
  have h : (0xF00F#16 : Word) = BitVec.allOnes 4 ++ 0#4 ++ 0#4 ++ BitVec.allOnes 4 := by decide
  simp only [OpcodeRow.accepts, beq_iff_eq, formXYN]
  rw [h, BitVec.and_append, BitVec.and_append, BitVec.and_append, and_ones, and_ones, BitVec.and_zero,
    BitVec.and_zero]

theorem accepts_formXYN (op : BitVec 4) (x y : RegIdx) (n : BitVec 4) (name : String) :
    OpcodeRow.accepts ⟨name, 0xF000#16, formXYN op 0#4 0#4 0#4⟩ (formXYN op x y n) = true := by
  have h : (0xF000#16 : Word) = BitVec.allOnes 4 ++ 0#4 ++ 0#4 ++ 0#4 := by decide
  simp only [OpcodeRow.accepts, beq_iff_eq, formXYN]
  rw [h, BitVec.and_append, BitVec.and_append, BitVec.and_append, and_ones, BitVec.and_zero, BitVec.and_zero,
    BitVec.and_zero]

theorem cls : Statement .cls :=
  ⟨⟨"CLS", 0xFFFF, 0x00E0⟩, by decide, rfl, by decide⟩

theorem ret : Statement .ret :=
  ⟨⟨"RET", 0xFFFF, 0x00EE⟩, by decide, rfl, by decide⟩

theorem jp (nnn : Addr12) : Statement (.jp nnn) :=
  ⟨⟨"JP", 0xF000, 0x1000⟩, by decide, rfl, accepts_formA 0x1#4 nnn _⟩

theorem call (nnn : Addr12) : Statement (.call nnn) :=
  ⟨⟨"CALL", 0xF000, 0x2000⟩, by decide, rfl, accepts_formA 0x2#4 nnn _⟩

theorem seb (x : RegIdx) (kk : Byte) : Statement (.seb x kk) :=
  ⟨⟨"SEB", 0xF000, 0x3000⟩, by decide, rfl, accepts_formXK 0x3#4 x kk _⟩

theorem sneb (x : RegIdx) (kk : Byte) : Statement (.sneb x kk) :=
  ⟨⟨"SNEB", 0xF000, 0x4000⟩, by decide, rfl, accepts_formXK 0x4#4 x kk _⟩

theorem ser (x y : RegIdx) : Statement (.ser x y) :=
  ⟨⟨"SER", 0xF00F, 0x5000⟩, by decide, rfl, accepts_formXY 0x5#4 x y 0x0#4 _⟩

theorem ldb (x : RegIdx) (kk : Byte) : Statement (.ldb x kk) :=
  ⟨⟨"LDB", 0xF000, 0x6000⟩, by decide, rfl, accepts_formXK 0x6#4 x kk _⟩

theorem addb (x : RegIdx) (kk : Byte) : Statement (.addb x kk) :=
  ⟨⟨"ADDB", 0xF000, 0x7000⟩, by decide, rfl, accepts_formXK 0x7#4 x kk _⟩

theorem ldr (x y : RegIdx) : Statement (.ldr x y) :=
  ⟨⟨"LDR", 0xF00F, 0x8000⟩, by decide, rfl, accepts_formXY 0x8#4 x y 0x0#4 _⟩

theorem or (x y : RegIdx) : Statement (.or x y) :=
  ⟨⟨"OR", 0xF00F, 0x8001⟩, by decide, rfl, accepts_formXY 0x8#4 x y 0x1#4 _⟩

theorem and (x y : RegIdx) : Statement (.and x y) :=
  ⟨⟨"AND", 0xF00F, 0x8002⟩, by decide, rfl, accepts_formXY 0x8#4 x y 0x2#4 _⟩

theorem xor (x y : RegIdx) : Statement (.xor x y) :=
  ⟨⟨"XOR", 0xF00F, 0x8003⟩, by decide, rfl, accepts_formXY 0x8#4 x y 0x3#4 _⟩

theorem addr (x y : RegIdx) : Statement (.addr x y) :=
  ⟨⟨"ADDR", 0xF00F, 0x8004⟩, by decide, rfl, accepts_formXY 0x8#4 x y 0x4#4 _⟩

theorem sub (x y : RegIdx) : Statement (.sub x y) :=
  ⟨⟨"SUB", 0xF00F, 0x8005⟩, by decide, rfl, accepts_formXY 0x8#4 x y 0x5#4 _⟩

theorem shr (x y : RegIdx) : Statement (.shr x y) :=
  ⟨⟨"SHR", 0xF00F, 0x8006⟩, by decide, rfl, accepts_formXY 0x8#4 x y 0x6#4 _⟩

theorem subn (x y : RegIdx) : Statement (.subn x y) :=
  ⟨⟨"SUBN", 0xF00F, 0x8007⟩, by decide, rfl, accepts_formXY 0x8#4 x y 0x7#4 _⟩

theorem shl (x y : RegIdx) : Statement (.shl x y) :=
  ⟨⟨"SHL", 0xF00F, 0x800E⟩, by decide, rfl, accepts_formXY 0x8#4 x y 0xE#4 _⟩

theorem sner (x y : RegIdx) : Statement (.sner x y) :=
  ⟨⟨"SNER", 0xF00F, 0x9000⟩, by decide, rfl, accepts_formXY 0x9#4 x y 0x0#4 _⟩

theorem lda (nnn : Addr12) : Statement (.lda nnn) :=
  ⟨⟨"LDA", 0xF000, 0xA000⟩, by decide, rfl, accepts_formA 0xA#4 nnn _⟩

theorem jpv0 (nnn : Addr12) : Statement (.jpv0 nnn) :=
  ⟨⟨"JPV0", 0xF000, 0xB000⟩, by decide, rfl, accepts_formA 0xB#4 nnn _⟩

theorem rnd (x : RegIdx) (kk : Byte) : Statement (.rnd x kk) :=
  ⟨⟨"RND", 0xF000, 0xC000⟩, by decide, rfl, accepts_formXK 0xC#4 x kk _⟩

theorem drw (x y : RegIdx) (n : BitVec 4) : Statement (.drw x y n) :=
  ⟨⟨"DRW", 0xF000, 0xD000⟩, by decide, rfl, accepts_formXYN 0xD#4 x y n _⟩

theorem skp (x : RegIdx) : Statement (.skp x) :=
  ⟨⟨"SKP", 0xF0FF, 0xE09E⟩, by decide, rfl, accepts_formXF 0xE#4 x 0x9E#8 _⟩

theorem sknp (x : RegIdx) : Statement (.sknp x) :=
  ⟨⟨"SKNP", 0xF0FF, 0xE0A1⟩, by decide, rfl, accepts_formXF 0xE#4 x 0xA1#8 _⟩

theorem lddt (x : RegIdx) : Statement (.lddt x) :=
  ⟨⟨"LDDT", 0xF0FF, 0xF007⟩, by decide, rfl, accepts_formXF 0xF#4 x 0x07#8 _⟩

theorem ldkp (x : RegIdx) : Statement (.ldkp x) :=
  ⟨⟨"LDKP", 0xF0FF, 0xF00A⟩, by decide, rfl, accepts_formXF 0xF#4 x 0x0A#8 _⟩

theorem stdt (x : RegIdx) : Statement (.stdt x) :=
  ⟨⟨"STDT", 0xF0FF, 0xF015⟩, by decide, rfl, accepts_formXF 0xF#4 x 0x15#8 _⟩

theorem stst (x : RegIdx) : Statement (.stst x) :=
  ⟨⟨"STST", 0xF0FF, 0xF018⟩, by decide, rfl, accepts_formXF 0xF#4 x 0x18#8 _⟩

theorem adda (x : RegIdx) : Statement (.adda x) :=
  ⟨⟨"ADDA", 0xF0FF, 0xF01E⟩, by decide, rfl, accepts_formXF 0xF#4 x 0x1E#8 _⟩

theorem ldf (x : RegIdx) : Statement (.ldf x) :=
  ⟨⟨"LDF", 0xF0FF, 0xF029⟩, by decide, rfl, accepts_formXF 0xF#4 x 0x29#8 _⟩

theorem bcd (x : RegIdx) : Statement (.bcd x) :=
  ⟨⟨"BCD", 0xF0FF, 0xF033⟩, by decide, rfl, accepts_formXF 0xF#4 x 0x33#8 _⟩

theorem strr (x : RegIdx) : Statement (.strr x) :=
  ⟨⟨"STRR", 0xF0FF, 0xF055⟩, by decide, rfl, accepts_formXF 0xF#4 x 0x55#8 _⟩

theorem ldrr (x : RegIdx) : Statement (.ldrr x) :=
  ⟨⟨"LDRR", 0xF0FF, 0xF065⟩, by decide, rfl, accepts_formXF 0xF#4 x 0x65#8 _⟩

end Sys2Proof.Laws.TableRow
end

