-- ==== Sys2Proof/Laws/Step.lean ====
section
/-! SUPPORT. What a step does, case by case, and what the events do: a proof about the step cites these instead of
unfolding it. -/

namespace Sys2Proof.Machine

/-- A run that is over does not go on. -/
theorem step_over {s : State} (h : s.over = true) : step s = .next s := by simp [step, runInput, h]

/-- With no input the CPU steps with the key levels as they are. -/
theorem step_idle {s : State} (h : s.over = false) (hi : s.platform.inbox = []) : step s = cpuStep s.keys s := by
  simp [step, runInput, h, hi]

/-- The oldest input is served: an atomic event. -/
theorem step_event {s : State} {e : Event} {rest : List Input} (h : s.over = false)
    (hi : s.platform.inbox = .event e :: rest) : step s = eventStep e (s.setInbox rest) := by
  simp [step, runInput, h, hi]

/-- The oldest input is served: an iteration of the host loop. -/
theorem step_poll {s : State} {p : Poll} {rest : List Input} (h : s.over = false)
    (hi : s.platform.inbox = .poll p :: rest) : step s = pollStep p (s.setInbox rest) := by
  simp [step, runInput, h, hi]

/-- Everything a step can be. -/
theorem step_cases (s : State) :
    (s.over = true ∧ step s = .next s) ∨
      (s.over = false ∧ s.platform.inbox = [] ∧ step s = cpuStep s.keys s) ∨
        (∃ e rest, s.over = false ∧ s.platform.inbox = .event e :: rest ∧ step s = eventStep e (s.setInbox rest)) ∨
          (∃ p rest, s.over = false ∧ s.platform.inbox = .poll p :: rest ∧ step s = pollStep p (s.setInbox rest)) := by
  cases ho : s.over with
  | true => exact .inl ⟨rfl, step_over ho⟩
  | false =>
    right
    match hi : s.platform.inbox with
    | [] => exact .inl ⟨rfl, rfl, step_idle ho hi⟩
    | .event e :: rest => exact .inr (.inl ⟨e, rest, rfl, rfl, step_event ho hi⟩)
    | .poll p :: rest => exact .inr (.inr ⟨p, rest, rfl, rfl, step_poll ho hi⟩)

/-- Everything a CPU step can be (40_cycle.md R80). -/
theorem cpuStep_cases (l : KeyLevels) (s : State) :
    (s.faulted = true ∧ cpuStep l s = .next s) ∨
      (∃ i, s.faulted = false ∧ decode s.fetchWord = .ok i ∧ cpuStep l s = exec i (s.prepare l)) ∨
        (∃ e, s.faulted = false ∧ decode s.fetchWord = .error e ∧
          cpuStep l s = .next ((s.prepare l).raise .invalidOpcode e.word)) := by
  cases hf : s.faulted with
  | true => exact .inl ⟨rfl, by simp [cpuStep, hf]⟩
  | false =>
    right
    cases hd : decode s.fetchWord with
    | ok i => exact .inl ⟨i, rfl, rfl, by simp [cpuStep, hf, hd]⟩
    | error e => exact .inr ⟨e, rfl, rfl, by simp [cpuStep, hf, hd]⟩

/-- A run of one step more, when the first step answers a next state. -/
theorem core_run_succ {s t : State} (n : Nat) (h : step s = .next t) :
    Sys2Proof.core.run (n + 1) s = Sys2Proof.core.run n t := by
  have h' : Sys2Proof.core.step s = .next t := h
  simp only [Host.Core.run, h']

theorem Frame.prepare (s : State) (l : KeyLevels) : Frame [.keys, .pc] s (s.prepare l) :=
  ((Frame.setKeys s l).mono (by simp)).trans ((Frame.setPc _ _).mono (by simp))

/-- `clock_tick` in its two cases (60_exceptions.md R171). -/
theorem clockTick_cases (ref hz now : Rat) :
    (now - ref ≥ period hz ∧ clockTick ref hz now = (ref + period hz, true)) ∨
      (¬ now - ref ≥ period hz ∧ clockTick ref hz now = (ref, false)) := by
  by_cases h : now - ref ≥ period hz
  · exact .inl ⟨h, by simp [clockTick, h]⟩
  · exact .inr ⟨h, by simp [clockTick, h]⟩

/-- A clock tick keeps a reference point on its grid (R171). -/
theorem OnGrid.clockTick {t0 hz ref : Rat} (h : OnGrid t0 hz ref) (now : Rat) :
    OnGrid t0 hz (clockTick ref hz now).1 := by
  obtain ⟨n, rfl⟩ := h
  rcases clockTick_cases (t0 + n * period hz) hz now with ⟨_, h⟩ | ⟨_, h⟩ <;> rw [h]
  · exact ⟨n + 1, by push_cast; ring⟩
  · exact ⟨n, rfl⟩

/-- A timer's decrement as a number (R173). -/
theorem timerDown_toNat (b : Byte) : (timerDown b).toNat = b.toNat - 1 := by
  unfold timerDown
  split
  · rename_i h; simp [h]
  · rename_i h
    have h0 : b.toNat ≠ 0 := fun e => h (BitVec.eq_of_toNat_eq (by simpa using e))
    have := b.isLt
    rw [BitVec.toNat_sub]
    simp
    omega

theorem Frame.delayTick (s : State) : Frame [.dt] s s.delayTick := by
  unfold State.delayTick
  split
  · exact Frame.refl s _
  · exact Frame.setDT s _

theorem Frame.beep (s : State) : Frame [.platform] s s.beep := Frame.emit s _

theorem Frame.soundTick (s : State) : Frame [.st, .soundOn, .platform] s s.soundTick := by
  unfold State.soundTick
  split
  · exact Frame.refl s _
  · exact (((Frame.setST s _).mono (by simp)).trans ((Frame.setSoundOn _ _).mono (by simp))).trans
      ((Frame.beep _).mono (by simp))

theorem Frame.keyEvent (s : State) (k : Key) : Frame [.pending] s (s.keyEvent k) := by
  unfold State.keyEvent
  split
  · exact Frame.refl s _
  · exact Frame.pushEvent s k

theorem Frame.checkSound (s : State) (now : Rat) :
    Frame [.clkSound, .st, .soundOn, .platform] s (s.checkSound now) := by
  simp only [State.checkSound]
  split
  · exact ((Frame.setClkSound s _).mono (by simp)).trans ((Frame.soundTick _).mono (by simp))
  · exact (Frame.setClkSound s _).mono (by simp)

theorem Frame.checkDelay (s : State) (now : Rat) : Frame [.clkDelay, .dt] s (s.checkDelay now) := by
  simp only [State.checkDelay]
  split
  · exact ((Frame.setClkDelay s _).mono (by simp)).trans ((Frame.delayTick _).mono (by simp))
  · exact (Frame.setClkDelay s _).mono (by simp)

theorem Frame.afterStep (s : State) : Frame [.dirty, .platform] s s.afterStep := by
  unfold State.afterStep
  split
  · exact Frame.refl s _
  · split
    · exact ((Frame.consumeDirty s).mono (by simp)).trans ((Frame.emit _ _).mono (by simp))
    · exact (Frame.consumeDirty s).mono (by simp)

/-- What `SoundTick` writes in a machine with no fault (60_exceptions.md R174, R175). -/
theorem State.soundTick_writes {s : State} (h : s.faulted = false) :
    s.soundTick.st = timerDown s.st ∧ s.soundTick.soundOn = (timerDown s.st != 0) ∧
      s.soundTick.platform.calls = s.platform.calls ++ [.beep (timerDown s.st != 0 && !s.settings.mute)] := by
  simp [State.soundTick, h, State.beep]

/-- Everything the sound clock's check can be (60_exceptions.md R180). -/
theorem State.checkSound_cases (s : State) (now : Rat) :
    (now - s.clkSound ≥ period s.settings.soundHz ∧
        s.checkSound now = (s.setClkSound (s.clkSound + period s.settings.soundHz)).soundTick) ∨
      (¬ now - s.clkSound ≥ period s.settings.soundHz ∧ s.checkSound now = s) := by
  rcases clockTick_cases s.clkSound s.settings.soundHz now with ⟨h, e⟩ | ⟨h, e⟩
  · exact .inl ⟨h, by simp only [State.checkSound, e, if_true]⟩
  · exact .inr ⟨h, by simp only [State.checkSound, e]; rfl⟩

/-- Everything the delay clock's check can be (60_exceptions.md R180). -/
theorem State.checkDelay_cases (s : State) (now : Rat) :
    (now - s.clkDelay ≥ period s.settings.delayHz ∧
        s.checkDelay now = (s.setClkDelay (s.clkDelay + period s.settings.delayHz)).delayTick) ∨
      (¬ now - s.clkDelay ≥ period s.settings.delayHz ∧ s.checkDelay now = s) := by
  rcases clockTick_cases s.clkDelay s.settings.delayHz now with ⟨h, e⟩ | ⟨h, e⟩
  · exact .inl ⟨h, by simp only [State.checkDelay, e, if_true]⟩
  · exact .inr ⟨h, by simp only [State.checkDelay, e]; rfl⟩

/-- Everything the CPU clock's check can be (60_exceptions.md R180). -/
theorem checkCpu_cases (now : Rat) (l : KeyLevels) (s : State) :
    (now - s.clkCpu ≥ period s.settings.cpuHz ∧ ∀ t,
        cpuStep l (s.setClkCpu (s.clkCpu + period s.settings.cpuHz)) = .next t →
          checkCpu now l s = .next t.afterStep) ∨
      (¬ now - s.clkCpu ≥ period s.settings.cpuHz ∧ checkCpu now l s = .next s) := by
  rcases clockTick_cases s.clkCpu s.settings.cpuHz now with ⟨h, e⟩ | ⟨h, e⟩
  · exact .inl ⟨h, fun t ht => by simp only [checkCpu, e, if_true, ht]⟩
  · exact .inr ⟨h, by simp only [checkCpu, e]; rfl⟩

end Sys2Proof.Machine
end

