-- ==== Sys2Proof/Tests/Slice0.lean ====
section
/-! SUPPORT. Tests of the model and witnesses for the hypotheses of the statements. Every expected value comes from
95_test_vectors.md, whose row is named, or from the rule named. -/

namespace Sys2Proof.Tests

-- one theorem at a time: each `decide +kernel` elaborated beside the others asks for a thread of its own
set_option Elab.async false

open Sys2Proof Sys2Proof.Machine

/-! ### Helpers -/

/-- The reset state with some registers written. -/
def withRegs (l : List (RegIdx × Byte)) : State := l.foldl (fun s p => s.setV p.1 p.2) State.reset

/-- The state with one setting replaced. -/
def State.tune (s : State) (f : Settings → Settings) : State := { s with settings := f s.settings }

/-- The state with bytes in memory. -/
def State.poke (s : State) (a : Nat) (bs : List Byte) : State := s.writeBytes a bs

/-- The state with pixels lit. -/
def State.light (s : State) (l : List (Nat × Nat)) : State :=
  { s with fb := l.foldl (fun fb p => setCell fb p.1 p.2 true) s.fb }

/-- The state with a number of entries on the stack and one entry written. -/
def State.depth (s : State) (sp : Byte) (j : Fin 16) (w : Word) : State :=
  { s with sp := sp, stack := s.stack.set j.val w j.isLt }

/-- The key levels with the keys of the list down. -/
def down (l : List Key) : KeyLevels := l.foldl (fun v k => v.set k.toNat true k.isLt) (Vector.replicate 16 false)

/-- One step of the machine whose turn is a CPU step with these keys down, on a word placed at `pc`; no answer unless
there is a next state. -/
def go (s : State) (w : Word) (keys : List Key := []) : Option State :=
  match step ((s.placeWord w).setInbox [.event (.cpuStep (down keys))]) with
  | .next t => some t
  | _ => none

/-- What the listed registers, `pc` and `I` hold after `go`. -/
def seen (s : State) (w : Word) (rs : List RegIdx) : Option (List Byte × Word × Word) :=
  (go s w).map fun t => (rs.map t.getV, t.pc, t.i)

/-- The lit columns of a row. -/
def litRow (s : State) (y : Nat) : List Nat := (List.range 64).filter (fun x => s.pixel x y)

/-! ### WellFormed: each check refuses an ill-formed term -/

theorem test_settings_default : Settings.default.wellFormed = true := by decide +kernel
theorem test_cpu_frequency_zero : { Settings.default with cpuHz := 0 }.wellFormed = false := by decide +kernel
theorem test_delay_frequency_negative : { Settings.default with delayHz := -60 }.wellFormed = false := by
  decide +kernel
theorem test_sound_frequency_zero : { Settings.default with soundHz := 0 }.wellFormed = false := by decide +kernel
theorem test_seed_too_large :
    { Settings.default with rngSeed := 4294967296 }.wellFormed = false ∧
      { Settings.default with rngSeed := 4294967295 }.wellFormed = true := by decide +kernel
theorem test_font_reaches_program :
    { Settings.default with fontBase := 0x1B1 }.wellFormed = false ∧
      { Settings.default with fontBase := 0x1B0 }.wellFormed = true := by decide +kernel
theorem test_time_negative : { Settings.default with t0 := -1 }.wellFormed = false := by decide +kernel
theorem test_rom_limit :
    romFits (List.replicate 3585 0) = false ∧ romFits (List.replicate 3584 0) = true := by
  simp only [romFits, List.length_replicate]
  decide
theorem test_construct_refuses :
    (State.construct { Settings.default with cpuHz := 0 } []).toOption = none ∧
      (State.construct Settings.default (List.replicate 3585 0)).toOption = none := by
  constructor
  · decide +kernel
  · have h : Settings.default.wellFormed = true := by decide +kernel
    have r : romFits (List.replicate 3585 0) = false := by
      simp only [romFits, List.length_replicate]
      decide
    simp only [State.construct, h, r]
    rfl

/-! ### Decoding: one word for each constructor (2.1), and words that are no instruction -/

theorem test_decode_cls : decode 0b0000000011100000#16 = .ok .cls := by decide
theorem test_decode_ret : decode 0b0000000011101110#16 = .ok .ret := by decide
theorem test_decode_jp : decode 0b0001111111111111#16 = .ok (.jp 0xFFF) := by decide
theorem test_decode_call : decode 0b0010101010111100#16 = .ok (.call 0xABC) := by decide
theorem test_decode_seb : decode 0b0011111100000000#16 = .ok (.seb 15 0x00) := by decide
theorem test_decode_sneb : decode 0b0100000111111111#16 = .ok (.sneb 1 0xFF) := by decide
theorem test_decode_ser : decode 0b0101000100100000#16 = .ok (.ser 1 2) := by decide
theorem test_decode_ldb : decode 0b0110101001010101#16 = .ok (.ldb 10 0x55) := by decide
theorem test_decode_addb : decode 0b0111000000000001#16 = .ok (.addb 0 0x01) := by decide
theorem test_decode_ldr : decode 0b1000000100100000#16 = .ok (.ldr 1 2) := by decide
theorem test_decode_or : decode 0b1000000100100001#16 = .ok (.or 1 2) := by decide
theorem test_decode_and : decode 0b1000000100100010#16 = .ok (.and 1 2) := by decide
theorem test_decode_xor : decode 0b1000000100100011#16 = .ok (.xor 1 2) := by decide
theorem test_decode_addr : decode 0b1000000000010100#16 = .ok (.addr 0 1) := by decide
theorem test_decode_sub : decode 0b1000000100100101#16 = .ok (.sub 1 2) := by decide
theorem test_decode_shr : decode 0b1000000100100110#16 = .ok (.shr 1 2) := by decide
theorem test_decode_subn : decode 0b1000000100100111#16 = .ok (.subn 1 2) := by decide
theorem test_decode_shl : decode 0b1000000100101110#16 = .ok (.shl 1 2) := by decide
theorem test_decode_sner : decode 0b1001000100100000#16 = .ok (.sner 1 2) := by decide
theorem test_decode_lda : decode 0b1010000100100011#16 = .ok (.lda 0x123) := by decide
theorem test_decode_jpv0 : decode 0b1011000100100011#16 = .ok (.jpv0 0x123) := by decide
theorem test_decode_rnd : decode 0b1100000100001111#16 = .ok (.rnd 1 0x0F) := by decide
theorem test_decode_drw : decode 0b1101000000010001#16 = .ok (.drw 0 1 1) := by decide
theorem test_decode_skp : decode 0b1110000110011110#16 = .ok (.skp 1) := by decide
theorem test_decode_sknp : decode 0b1110000110100001#16 = .ok (.sknp 1) := by decide
theorem test_decode_lddt : decode 0b1111000100000111#16 = .ok (.lddt 1) := by decide
theorem test_decode_ldkp : decode 0b1111000100001010#16 = .ok (.ldkp 1) := by decide
theorem test_decode_stdt : decode 0b1111000100010101#16 = .ok (.stdt 1) := by decide
theorem test_decode_stst : decode 0b1111000100011000#16 = .ok (.stst 1) := by decide
theorem test_decode_adda : decode 0b1111000100011110#16 = .ok (.adda 1) := by decide
theorem test_decode_ldf : decode 0b1111000100101001#16 = .ok (.ldf 1) := by decide
theorem test_decode_bcd : decode 0b1111000100110011#16 = .ok (.bcd 1) := by decide
theorem test_decode_strr : decode 0b1111000101010101#16 = .ok (.strr 1) := by decide
theorem test_decode_ldrr : decode 0b1111000101100101#16 = .ok (.ldrr 1) := by decide

/-- 2.1: words that match no row, each with itself in the verdict. -/
theorem test_decode_invalid :
    ([0x0000, 0x00E1, 0x00FE, 0x0123, 0x0FFF, 0x5121, 0x512F, 0x8128, 0x812F, 0x9121, 0xE000, 0xE19F, 0xE1A0,
      0xF000, 0xF175, 0xF185, 0xFFFF] : List Word).all (fun w => decide (decode w = .error ⟨w⟩)) = true := by
  decide +kernel

/-- The first byte of memory is the high byte, and two bytes are needed (R44, R60). -/
theorem test_decode_bytes :
    decodeBytes [0x8A, 0xB4, 0x77] = .ok (.addr 0xA 0xB, [0x77]) ∧ decodeBytes [0x8A] = .error .truncated ∧
      decodeBytes [0x01, 0x23] = .error (.invalid 0x0123) := by decide

theorem test_decode_table_word :
    decodeTableWord 16 0x8AB4 = some (.addr 0xA 0xB) ∧ decodeTableWord 16 0xF185 = none := by decide

/-- No two rows of the table overlap: where both masks look, the matches differ (R63). -/
theorem test_table_rows_disjoint :
    opcodeTable.length = 34 ∧
      opcodeTable.Pairwise (fun r q => r.matchBits &&& q.mask ≠ q.matchBits &&& r.mask) := by decide +kernel

/-- R69: the customary spelling of the rows the programs of part 3 show. -/
theorem test_spelling :
    spelling (.lda 0x206) = "LD I, 0x206" ∧ spelling (.seb 1 0x00) = "SE V1, 0x00" ∧
      spelling (.ldrr 2) = "LD V2, [I]" ∧ spelling (.bcd 0) = "LD B, V0" ∧
      spelling (.drw 0 1 5) = "DRW V0, V1, 5" := by decide +kernel

/-! ### Control transfer (2.2) -/

theorem test_jp_F1 : seen State.reset 0x1ABC [] = some ([], 0x0ABC, 0) := by decide +kernel
/-- F22: fetch across the top of memory. -/
theorem test_jp_F22 : seen (State.reset.setPc 0x0FFF) 0x1234 [] = some ([], 0x0234, 0) := by decide +kernel
theorem test_call_F4 :
    (go (State.depth State.reset 15 0 0) 0x2300).map (fun t => (t.pc, t.sp, t.stackAt 15)) =
      some (0x0300, 16, 0x0202) := by decide +kernel
theorem test_call_F5_F6 :
    (go (State.depth State.reset 16 0 0) 0x2300).map (fun t => (t.pc, t.sp, t.fault)) =
        some (0x0202, 16, some ⟨.stackOverflow, 0x0200, 0x2300⟩) ∧
      (go (State.tune (State.depth State.reset 16 0 0) ({ · with stackPolicy := .wrap })) 0x2300).map
        (fun t => (t.pc, t.sp, t.stackAt 0, t.fault)) = some (0x0300, 17, 0x0202, none) := by decide +kernel
theorem test_ret_F7_F8 :
    (go (State.depth State.reset 1 0 0x0456) 0x00EE).map (fun t => (t.pc, t.sp, t.stackAt 0, t.fault)) =
        some (0x0456, 0, 0x0456, none) ∧
      (go State.reset 0x00EE).map (fun t => (t.pc, t.sp, t.fault)) =
        some (0x0202, 0, some ⟨.stackUnderflow, 0x0200, 0x00EE⟩) := by decide +kernel
theorem test_ret_F9 :
    (go (State.tune (State.depth State.reset 0 15 0x0ABC) ({ · with stackPolicy := .wrap })) 0x00EE).map
      (fun t => (t.pc, t.sp, t.fault)) = some (0x0ABC, 255, none) := by decide +kernel
theorem test_seb_F10_F11 :
    seen (withRegs [(0xA, 0x42)]) 0x3A42 [] = some ([], 0x0204, 0) ∧
      seen (withRegs [(0xA, 0x41)]) 0x3A42 [] = some ([], 0x0202, 0) := by decide +kernel
/-- F25: the advance and the skip wrap at 16 bits. -/
theorem test_seb_F25 : seen (State.reset.setPc 0xFFFE) 0x3A00 [] = some ([], 0x0002, 0) := by decide +kernel
theorem test_sneb_F12_F13 :
    seen (withRegs [(0xA, 0x42)]) 0x4A42 [] = some ([], 0x0202, 0) ∧
      seen (withRegs [(0xA, 0x41)]) 0x4A42 [] = some ([], 0x0204, 0) := by decide +kernel
theorem test_ser_F14_F15 :
    seen (withRegs [(0xA, 7), (0xB, 7)]) 0x5AB0 [] = some ([], 0x0204, 0) ∧
      seen (withRegs [(0xA, 7), (0xB, 8)]) 0x5AB0 [] = some ([], 0x0202, 0) := by decide +kernel
theorem test_sner_F17_F18 :
    seen (withRegs [(0xA, 7), (0xB, 8)]) 0x9AB0 [] = some ([], 0x0204, 0) ∧
      seen (withRegs [(0xA, 7), (0xB, 7)]) 0x9AB0 [] = some ([], 0x0202, 0) := by decide +kernel
theorem test_jpv0_F20_F21 :
    seen (withRegs [(0, 0x10)]) 0xB300 [] = some ([], 0x0310, 0) ∧
      seen (withRegs [(0, 0xFF)]) 0xBFFF [] = some ([], 0x10FE, 0) := by decide +kernel

/-! ### Registers and arithmetic (2.3) -/

theorem test_ldb_A1 : seen State.reset 0x6AFF [0xA] = some ([0xFF], 0x0202, 0) := by decide +kernel
/-- F24: a fetch from a `pc` past the memory. -/
theorem test_ldb_F24 : seen (State.reset.setPc 0x10FE) 0x6A55 [0xA] = some ([0x55], 0x1100, 0) := by decide +kernel
theorem test_addb_A2_A3 :
    seen (withRegs [(0xA, 0xFF)]) 0x7A01 [0xA, 0xF] = some ([0, 0], 0x0202, 0) ∧
      seen (withRegs [(0xF, 0xFF)]) 0x7F01 [0xF] = some ([0], 0x0202, 0) := by decide +kernel
theorem test_ldr_A4 : seen (withRegs [(0xB, 0x5A)]) 0x8AB0 [0xA, 0xB] = some ([0x5A, 0x5A], 0x0202, 0) := by
  decide +kernel
theorem test_or_A5 :
    seen (withRegs [(0xA, 0xF0), (0xB, 0x0F), (0xF, 0x77)]) 0x8AB1 [0xA, 0xF] = some ([0xFF, 0x77], 0x0202, 0) := by
  decide +kernel
theorem test_and_A6 :
    seen (withRegs [(0xA, 0xF0), (0xB, 0x3C), (0xF, 0x77)]) 0x8AB2 [0xA, 0xF] = some ([0x30, 0x77], 0x0202, 0) := by
  decide +kernel
theorem test_xor_A7_A8 :
    seen (withRegs [(0xA, 0xF0), (0xB, 0x3C), (0xF, 0x77)]) 0x8AB3 [0xA, 0xF] = some ([0xCC, 0x77], 0x0202, 0) ∧
      seen (withRegs [(0xA, 0xF0)]) 0x8AA3 [0xA] = some ([0], 0x0202, 0) := by decide +kernel
theorem test_addr_A10_A12 :
    seen (withRegs [(0xA, 0xFF), (0xB, 0x01)]) 0x8AB4 [0xA, 0xF] = some ([0x00, 1], 0x0202, 0) ∧
      seen (withRegs [(0xA, 0x80), (0xB, 0x7F)]) 0x8AB4 [0xA, 0xF] = some ([0xFF, 0], 0x0202, 0) := by decide +kernel
theorem test_addr_A13_A14 :
    seen (withRegs [(0xF, 0xFF), (0xB, 0x02)]) 0x8FB4 [0xF] = some ([1], 0x0202, 0) ∧
      seen (withRegs [(0xA, 0x01), (0xF, 0x05)]) 0x8AF4 [0xA, 0xF] = some ([6, 0], 0x0202, 0) := by decide +kernel
theorem test_sub_A15_A16 :
    seen (withRegs [(0xA, 5), (0xB, 3)]) 0x8AB5 [0xA, 0xF] = some ([2, 1], 0x0202, 0) ∧
      seen (withRegs [(0xA, 3), (0xB, 5)]) 0x8AB5 [0xA, 0xF] = some ([0xFE, 0], 0x0202, 0) := by decide +kernel
theorem test_sub_A17_A19 :
    seen (withRegs [(0xA, 5), (0xB, 5)]) 0x8AB5 [0xA, 0xF] = some ([0, 1], 0x0202, 0) ∧
      seen (withRegs [(0xF, 3), (0xB, 5)]) 0x8FB5 [0xF] = some ([0], 0x0202, 0) := by decide +kernel
theorem test_subn_A20_A21 :
    seen (withRegs [(0xA, 3), (0xB, 5)]) 0x8AB7 [0xA, 0xF] = some ([2, 1], 0x0202, 0) ∧
      seen (withRegs [(0xA, 5), (0xB, 3)]) 0x8AB7 [0xA, 0xF] = some ([0xFE, 0], 0x0202, 0) := by decide +kernel
theorem test_shr_A23_A24 :
    seen (withRegs [(0xA, 5), (0xB, 8)]) 0x8AB6 [0xA, 0xB, 0xF] = some ([2, 8, 1], 0x0202, 0) ∧
      seen (State.tune (withRegs [(0xA, 5), (0xB, 8)]) ({ · with shiftQuirk := false })) 0x8AB6 [0xA, 0xB, 0xF] =
        some ([4, 8, 0], 0x0202, 0) := by decide +kernel
theorem test_shr_A26_A27 :
    seen (withRegs [(0xF, 3), (0xB, 8)]) 0x8FB6 [0xF] = some ([1], 0x0202, 0) ∧
      seen (State.tune (withRegs [(0xA, 5), (0xF, 3)]) ({ · with shiftQuirk := false })) 0x8AF6 [0xA, 0xF] =
        some ([1, 1], 0x0202, 0) := by decide +kernel
theorem test_shl_A28_A29 :
    seen (withRegs [(0xA, 0x81), (0xB, 0x40)]) 0x8ABE [0xA, 0xB, 0xF] = some ([2, 0x40, 1], 0x0202, 0) ∧
      seen (State.tune (withRegs [(0xA, 0x81), (0xB, 0x40)]) ({ · with shiftQuirk := false })) 0x8ABE
        [0xA, 0xB, 0xF] = some ([0x80, 0x40, 0], 0x0202, 0) := by decide +kernel
theorem test_shl_A30_A31 :
    seen (withRegs [(0xA, 0x7F), (0xB, 0xFF)]) 0x8ABE [0xA, 0xF] = some ([0xFE, 0], 0x0202, 0) ∧
      seen (withRegs [(0xF, 0x81), (0xB, 1)]) 0x8FBE [0xF] = some ([1], 0x0202, 0) := by decide +kernel
/-- A36 and A34: the generator advances whatever the mask is. -/
theorem test_rnd_A36_A34 :
    (go { State.reset with rng := 12345 } 0xCAF0).map (fun t => (t.getV 0xA, t.rng)) = some (0xD0, 595905496) ∧
      (go State.reset 0xCA00).map (fun t => (t.getV 0xA, t.rng)) = some (0, 1) := by decide +kernel
/-- 2.7: from the last seeds of the table. -/
theorem test_generator_table :
    rngStep 1 = 48272 ∧ rngStep 2147483646 = 2147435377 ∧ rngStep 2147483647 = 1 ∧ rngStep 4294967295 = 48272 ∧
      rngStep 571676697 ≠ 0 ∧ rngStep 2128499084 = 571676697 := by decide +kernel

/-! ### The address register and memory (2.4) -/

theorem test_lda_M1 : seen State.reset 0xAFFF [] = some ([], 0x0202, 0x0FFF) := by decide +kernel
theorem test_adda_M2_M4 :
    seen ((withRegs [(1, 1)]).setI 0x0FFF) 0xF11E [0xF] = some ([0], 0x0202, 0x1000) ∧
      seen ((withRegs [(1, 2)]).setI 0xFFFF) 0xF11E [0xF] = some ([0], 0x0202, 0x0001) := by decide +kernel
theorem test_adda_M6_M7 :
    seen (State.tune ((withRegs [(1, 0xFF), (0xF, 9)]).setI 0xFF01) ({ · with addressOverflowQuirk := true })) 0xF11E
        [0xF] = some ([1], 0x0202, 0) ∧
      seen (State.tune ((withRegs [(1, 0xFF), (0xF, 9)]).setI 0xFF00) ({ · with addressOverflowQuirk := true })) 0xF11E
        [0xF] = some ([9], 0x0202, 0xFFFF) := by decide +kernel
theorem test_ldf_M10_M11 :
    seen (State.tune (withRegs [(3, 0x0A)]) ({ · with fontBase := 0x050 })) 0xF329 [] = some ([], 0x0202, 0x0082) ∧
      seen (withRegs [(3, 0x1A)]) 0xF329 [] = some ([], 0x0202, 0x0032) := by decide +kernel
theorem test_bcd_M13 :
    (go ((withRegs [(0, 0xFE)]).setI 0x0300) 0xF033).map
      (fun t => ((List.range 4).map (fun k => t.readByte (0x300 + k)), t.i)) = some ([2, 5, 4, 0], 0x0300) := by
  decide +kernel
/-- M15: the stores wrap to the bottom of memory. -/
theorem test_bcd_M15 :
    (go ((withRegs [(0, 0xFF)]).setI 0x0FFF) 0xF033).map
      (fun t => [t.readByte 0xFFF, t.readByte 0, t.readByte 1, t.readByte 2]) = some [2, 5, 5, 0x90] := by
  decide +kernel
theorem test_strr_M18 :
    (go (State.tune ((withRegs [(0, 0x11), (1, 0x22), (2, 0x33), (3, 0x44)]).setI 0x0300)
      ({ · with loadStoreQuirk := true })) 0xF255).map
      (fun t => ((List.range 4).map (fun k => t.readByte (0x300 + k)), t.i)) =
        some ([0x11, 0x22, 0x33, 0], 0x0303) := by decide +kernel
theorem test_strr_M20 :
    (go ((withRegs [(0, 0x11), (1, 0x22)]).setI 0x0FFF) 0xF155).map
      (fun t => ([t.readByte 0xFFF, t.readByte 0, t.readByte 1], t.i)) = some ([0x11, 0x22, 0x90], 0x0FFF) := by
  decide +kernel
theorem test_ldrr_M22_M23 :
    seen ((State.poke State.reset 0x300 [0xDE, 0xAD, 0xBE, 0xEF]).setI 0x0300) 0xF265 [0, 1, 2, 3] =
        some ([0xDE, 0xAD, 0xBE, 0], 0x0202, 0x0300) ∧
      seen (State.tune ((State.poke State.reset 0x300 [0xDE, 0xAD, 0xBE, 0xEF]).setI 0x0300)
        ({ · with loadStoreQuirk := true })) 0xF265 [0, 1, 2, 3] =
          some ([0xDE, 0xAD, 0xBE, 0], 0x0202, 0x0303) := by decide +kernel
/-- M24: the second byte is read from address 0, the first font byte. -/
theorem test_ldrr_M24 :
    seen ((State.poke State.reset 0xFFF [0x77]).setI 0x0FFF) 0xF165 [0, 1] = some ([0x77, 0xF0], 0x0202, 0x0FFF) := by
  decide +kernel

/-! ### The display (2.5) -/

theorem test_cls_DV1 :
    (go (State.light State.reset [(0, 0), (63, 31)]) 0x00E0).map (fun t => (litRow t 0, litRow t 31, t.dirty)) =
      some ([], [], true) := by decide +kernel
/-- DV5 (a collision and a pixel outside the sprite) and DV7 (S5: columns past the right edge wrap). -/
theorem test_drw_DV5_DV7 :
    (go ((State.light (State.poke State.reset 0x300 [0xF0]) [(3, 0), (4, 0)]).setI 0x0300) 0xD011).map
        (fun t => (litRow t 0, t.getV 15, t.dirty)) = some ([0, 1, 2, 4], 1, true) ∧
      (go (((State.poke State.reset 0x300 [0xFF]).setV 0 0x42).setI 0x0300) 0xD011).map
        (fun t => (litRow t 0, t.getV 15)) = some ([2, 3, 4, 5, 6, 7, 8, 9], 0) := by decide +kernel
/-- DV12 and DV13: row 255 of the coordinate space, with and without vertical wrapping. -/
theorem test_drw_DV12_DV13 :
    (go (((State.poke State.reset 0x300 [0x80, 0x80]).setV 1 0xFF).setI 0x0300) 0xD012).map
        (fun t => (litRow t 0, litRow t 31, t.dirty)) = some ([], [], false) ∧
      (go (State.tune (((State.poke State.reset 0x300 [0x80, 0x80]).setV 1 0xFF).setI 0x0300)
        ({ · with verticalWrap := true })) 0xD012).map
          (fun t => (litRow t 0, litRow t 31, t.dirty)) = some ([0], [0], true) := by decide +kernel

/-! ### Keyboard and timer instructions (2.6) -/

theorem test_skp_K2_K3 :
    (go (withRegs [(3, 0x05)]) 0xE39E).map State.pc = some 0x0202 ∧
      (go (withRegs [(3, 0x15)]) 0xE39E [5]).map (fun t => (t.pc, t.isDown 5)) = some (0x0204, true) := by
  decide +kernel
theorem test_sknp_K4_K5 :
    (go (withRegs [(3, 0x05)]) 0xE3A1 [5]).map State.pc = some 0x0202 ∧
      (go (withRegs [(3, 0x05)]) 0xE3A1 [4, 6]).map State.pc = some 0x0204 := by decide +kernel
theorem test_ldkp_K10 :
    (go State.reset 0xF30A [1, 2, 3]).map (fun t => (t.pc, t.waiting, t.pending)) = some (0x0200, true, none) := by
  decide +kernel
theorem test_ldkp_K8 :
    (go ((withRegs [(3, 0xFF)]).setLatch true (some 0)) 0xF30A).map
      (fun t => (t.getV 3, t.pc, t.waiting, t.pending)) = some (0, 0x0202, false, none) := by decide +kernel
theorem test_lddt_K11 : seen (State.reset.setDT 0x2A) 0xF307 [3] = some ([0x2A], 0x0202, 0) := by decide +kernel
theorem test_stdt_K12_K14 :
    (go (withRegs [(3, 0x3C)]) 0xF315).map (fun t => (t.dt, t.st)) = some (0x3C, 0) ∧
      (go (State.reset.setDT 0x10) 0xF315).map State.dt = some 0 := by decide +kernel
theorem test_stst_K13 :
    (go (withRegs [(3, 0x3C)]) 0xF318).map (fun t => (t.st, t.dt, t.soundOn)) = some (0x3C, 0, false) := by
  decide +kernel

/-! ### Events and clocks (2.8) -/

theorem test_delay_tick_E1_E2 :
    (State.reset.setDT 2).delayTick.dt = 1 ∧ (State.reset.setDT 0).delayTick.dt = 0 := by decide +kernel
/-- E3 and E4; and E3 with `MUTE`. -/
theorem test_sound_tick_E3_E4 :
    ((State.reset.setST 2).soundTick.st, (State.reset.setST 2).soundTick.soundOn,
        (State.reset.setST 2).soundTick.platform.calls) = (1, true, [.beep true]) ∧
      (((State.reset.setST 1).setSoundOn true).soundTick.soundOn,
        ((State.reset.setST 1).setSoundOn true).soundTick.platform.calls) = (false, [.beep false]) ∧
      (State.tune (State.reset.setST 2) ({ · with mute := true })).soundTick.platform.calls = [.beep false] := by
  decide +kernel
theorem test_key_event_E7_E8_E9 :
    (State.reset.keyEvent 5).pending = none ∧ ((State.reset.setLatch true none).keyEvent 5).pending = some 5 ∧
      ((State.reset.setLatch true (some 5)).keyEvent 9).pending = some 5 := by decide +kernel
/-- The worked calls of `clock_tick` of 2.8. -/
theorem test_clock_tick_calls :
    clockTick 0 60 (1 / 120) = (0, false) ∧ clockTick 0 60 (1 / 60) = (1 / 60, true) ∧
      clockTick (1 / 60) 60 (1 / 60) = (1 / 60, false) ∧ clockTick (1 / 60) 60 (5 / 60) = (2 / 60, true) ∧
      clockTick (5 / 60) 60 (5 / 60) = (5 / 60, false) := by decide +kernel
/-- R180, R181: an idle poll at the time of reset plus one CPU period runs CLS and redraws the display. -/
theorem test_poll_redraws :
    (match step ((State.reset.placeWord 0x00E0).setInbox [.poll (.idle (1 / 700) (down []))]) with
      | .next t => some (t.pc, t.dirty, t.clkCpu, t.clkDelay, t.platform.calls)
      | _ => none) = some (0x0202, false, 1 / 700, 0, [.clear, .present]) := by decide +kernel
/-- R167: in an iteration with all clocks due the tick counts the old `ST` down before STST writes the new one. -/
theorem test_poll_sound_before_step :
    (match step ((((withRegs [(3, 9)]).setST 2).placeWord 0xF318).setInbox [.poll (.idle (1 / 60) (down []))]) with
      | .next t => some (t.st, t.soundOn, t.platform.calls)
      | _ => none) = some (9, true, [.beep true]) := by decide +kernel
/-- P6: with an empty ROM the first step from reset raises `InvalidOpcode`. -/
theorem test_reset_first_step :
    (match step State.reset with
      | .next t => some (t.fault, t.pc)
      | _ => none) = some (some ⟨.invalidOpcode, 0x0200, 0x0000⟩, 0x0202) := by decide +kernel

/-! ### Witnesses: for every statement with hypotheses, a concrete state and operands that meet all of them -/

/-- A state whose next fetch finds the word. -/
def fetching (w : Word) : State := State.reset.placeWord w

/-- StepRunsDecodedInstruction: both kinds of CPU turn, a tick and a poll. -/
theorem test_witness_step :
    (fetching 0x6A55).over = false ∧ decode (fetching 0x6A55).fetchWord = .ok (.ldb 0xA 0x55) ∧
      (fetching 0x6A55).platform.inbox = [] ∧
      ((fetching 0x6A55).setInbox [.event (.cpuStep (down [3]))]).over = false ∧
      ((fetching 0x6A55).setInbox [.event (.cpuStep (down [3]))]).platform.inbox =
        .event (.cpuStep (down [3])) :: [] ∧
      (State.reset.setInbox [.event .delayTick, .poll .quit]).over = false ∧
      (State.reset.setInbox [.event .delayTick, .poll .quit]).platform.inbox = .event .delayTick :: [.poll .quit] ∧
      (State.reset.setInbox [.poll .quit]).platform.inbox = .poll .quit :: [] := by decide +kernel

/-- EncodeInvertsDecode: a word that is an instruction and one that is not. -/
theorem test_witness_encode :
    decode 0x8FB6 = .ok (.shr 0xF 0xB) ∧ decode 0xFFFF = .error ⟨0xFFFF⟩ ∧ decode 0x00E0 = decode 0x00E0 := by
  decide +kernel

/-- InvalidWordIsFatal, FaultsArePrecise, FaultedMachineIsFrozen and the first clause of OnlyThreeFatalConditions: the
reset state itself, and one at the last `pc`. -/
theorem test_witness_invalid :
    State.reset.faulted = false ∧ decode State.reset.fetchWord = .error ⟨0x0000⟩ ∧
      (match cpuStep (down []) State.reset with
        | .next t => some (t.faulted, t.pc)
        | _ => none) = some (true, 0x0202) ∧
      (State.reset.setPc 0xFFFF).faulted = false ∧
      decode ((State.reset.setPc 0xFFFF).placeWord 0x5121).fetchWord = .error ⟨0x5121⟩ ∧
      (State.reset.raise .stackOverflow 0x2300).faulted = true := by decide +kernel

/-- StackFaults and the other two clauses of OnlyThreeFatalConditions: the depths 16 and 0 under `fault`. -/
theorem test_witness_stack_faults :
    (State.depth (fetching 0x2300) 16 0 0).settings.stackPolicy = .fault ∧
      (State.depth (fetching 0x2300) 16 0 0).sp = 16 ∧ (fetching 0x00EE).sp = 0 ∧
      decode (State.depth (fetching 0x2300) 16 0 0).fetchWord = .ok (.call 0x300) ∧
      decode (fetching 0x00EE).fetchWord = .ok .ret ∧
      (match cpuStep (down []) (State.depth (fetching 0x2300) 16 0 0) with
        | .next t => some t.faulted
        | _ => none) = some true ∧
      (match cpuStep (down []) (fetching 0x00EE) with
        | .next t => some t.faulted
        | _ => none) = some true := by decide +kernel

/-- ConditionalSkips, its last clause: the selectors 1 and 15 are not 0. -/
theorem test_witness_selector : (1 : BitVec 4) ≠ 0 ∧ (15 : BitVec 4) ≠ 0 := by decide

/-- CallPushesReturnAddress and ReturnPopsReturnAddress: depths 0, 15 and 1, 16 under `fault`, the unreachable 17 and
255 (log 10), and 16 and 0 under `wrap`. -/
theorem test_witness_call_and_return :
    (State.reset.settings.stackPolicy = .wrap ∨ State.reset.sp ≠ 16) ∧ (State.depth State.reset 15 0 0).sp ≠ 16 ∧
      (State.depth State.reset 1 0 0).sp ≠ 0 ∧ (State.depth State.reset 16 0 0).sp ≠ 0 ∧
      (State.depth State.reset 17 0 0).sp ≠ 16 ∧ (State.depth State.reset 255 0 0).sp ≠ 0 ∧
      (State.tune (State.depth State.reset 16 0 0) ({ · with stackPolicy := .wrap })).settings.stackPolicy = .wrap ∧
      (State.tune State.reset ({ · with stackPolicy := .wrap })).settings.stackPolicy = .wrap := by decide +kernel

/-- CallThenReturnComesBack: at depth 15 under `fault`. -/
theorem test_witness_call_then_return :
    (State.depth State.reset 15 0 0).StackOk ∧ (State.depth State.reset 15 0 0).sp ≠ 16 ∧
      exec (.call 0x300) (State.depth State.reset 15 0 0) =
        .next ((State.depth State.reset 15 0 0).pushPc.setPc 0x300) :=
  ⟨fun _ => by decide +kernel, by decide +kernel, rfl⟩

/-- AddRegistersSetsCarry, SubtractSetsNoBorrow and ShiftsByOne: a destination that is not `VF`, and a source. -/
theorem test_witness_shift :
    (0xA : RegIdx) ≠ 15 ∧
      128 = (if (withRegs [(0xA, 128), (0xB, 1)]).settings.shiftQuirk then
        ((withRegs [(0xA, 128), (0xB, 1)]).getV 0xA).toNat else ((withRegs [(0xA, 128), (0xB, 1)]).getV 0xB).toNat) :=
  by decide +kernel

/-- LoadGlyphAddress, and the highest base it allows. -/
theorem test_witness_font :
    State.reset.settings.fontOk = true ∧
      (State.tune State.reset ({ · with fontBase := 0x1B0 })).settings.fontOk = true := by decide +kernel

/-- StoredBlockLoadsBack: the longest block, across the top of memory. -/
theorem test_witness_block :
    (State.reset.setI 0xFFF).settings.loadStoreQuirk = false ∧
      ∃ t u, exec (.strr 15) (State.reset.setI 0xFFF) = .next t ∧
        exec (.ldrr 15) { t with v := Vector.replicate 16 0xEE } = .next u ∧ (15 : RegIdx).toNat ≤ (15 : RegIdx).toNat :=
  ⟨rfl, _, _, rfl, rfl, le_refl _⟩

/-- The state of vector DV4: a sprite of one row over four lit pixels. -/
def overSprite : State :=
  (State.light (State.poke State.reset 0x300 [0xF0]) [(0, 0), (1, 0), (2, 0), (3, 0)]).setI 0x0300

/-- The cells the statement DrawXorsSprite calls covered, for a sprite of `n` rows at `(x0, y0)`. -/
def covered (s : State) (x0 y0 n X Y : Nat) : Prop :=
  ∃ r c, r < n ∧ c < 8 ∧ (s.settings.verticalWrap = true ∨ y0 + r < 32) ∧ (y0 + r) % 32 = Y ∧ (x0 + c) % 64 = X ∧
    (s.readByte (s.i.toNat + r)).getLsbD (7 - c) = true

/-- DrawXorsSprite: the cells covered in vector DV4 meet its hypothesis; a cell that is lit and covered, a covered cell at
the last column and row, a display with no lit cell, and a sprite past the bottom that covers none. -/
theorem test_witness_draw :
    (∀ X Y, covered overSprite (overSprite.getV 0).toNat (overSprite.getV 1).toNat (1 : BitVec 4).toNat X Y ↔
      ∃ r c, r < (1 : BitVec 4).toNat ∧ c < 8 ∧
        (overSprite.settings.verticalWrap = true ∨ (overSprite.getV 1).toNat + r < 32) ∧
        ((overSprite.getV 1).toNat + r) % 32 = Y ∧ ((overSprite.getV 0).toNat + c) % 64 = X ∧
        (overSprite.readByte (overSprite.i.toNat + r)).getLsbD (7 - c) = true) ∧
      (overSprite.pixel 3 0 = true ∧ covered overSprite 0 0 1 3 0) ∧ covered State.reset 63 31 1 63 31 ∧
      (¬∃ X Y, X < 64 ∧ Y < 32 ∧ State.reset.pixel X Y = true ∧ covered State.reset 0 0 1 X Y) ∧
      ¬covered State.reset 0 32 1 0 0 := by
  refine ⟨fun X Y => Iff.rfl, ⟨by decide +kernel, 0, 3, by decide +kernel⟩, ⟨0, 0, by decide +kernel⟩, ?_, ?_⟩
  · rintro ⟨X, Y, -, -, h, -⟩
    simp [State.pixel, State.reset, State.init] at h
  · rintro ⟨r, c, -, -, h | h, -⟩
    · exact absurd h (by decide +kernel)
    · omega

/-- DrawTwiceRestores: a sprite that covers a display cell, drawn where the coordinates are not changed. -/
theorem test_witness_draw_twice :
    ∃ t, exec (.drw 0 1 1) overSprite = .next t ∧ t.getV 0 = overSprite.getV 0 ∧ t.getV 1 = overSprite.getV 1 ∧
      ∃ X Y, X < 64 ∧ Y < 32 ∧
        overSprite.spriteCovers (overSprite.getV 0).toNat (overSprite.getV 1).toNat (1 : BitVec 4).toNat X Y = true :=
  ⟨_, rfl, by decide +kernel, by decide +kernel, 0, 0, by decide +kernel⟩

/-- SkipOnKeyLevel: key 15 by a register whose high nibble is not 0. -/
theorem test_witness_key : (15 : Key).toNat = ((withRegs [(3, 0xFF)]).getV 3).toNat % 16 := by decide +kernel

/-- KeyWaitArmsWaitsConsumes: its three cases, with key 0 pending. -/
theorem test_witness_latch :
    State.reset.waiting = false ∧ (State.reset.setLatch true none).waiting = true ∧
      (State.reset.setLatch true none).pending = none ∧ (State.reset.setLatch true (some 0)).waiting = true ∧
      (State.reset.setLatch true (some 0)).pending = some 0 := by decide +kernel

/-- KeyPressEndsTheWait and HeldKeysNeverEndTheWait: LDKP at `pc` and the events of the statement. -/
theorem test_witness_key_wait :
    let s := (fetching 0xF30A).setInbox
      [.event (.cpuStep (down [7])), .event (.keyEvent 7), .event (.cpuStep (down []))]
    let r := (fetching 0xF30A).setInbox ([down [7], down []].map (fun l => .event (.cpuStep l)))
    s.over = false ∧ s.waiting = false ∧ decode s.fetchWord = .ok (.ldkp 3) ∧
      s.platform.inbox = [.event (.cpuStep (down [7])), .event (.keyEvent 7), .event (.cpuStep (down []))] ∧
      r.over = false ∧ r.pending = none ∧ decode r.fetchWord = .ok (.ldkp 3) ∧
      r.platform.inbox = [down [7], down []].map (fun l => .event (.cpuStep l)) := by decide +kernel

/-- DelayTickCountsDown, SoundTickSamplesAndBeeps, TimersSaturateAtZero, KeyEventLatchesFirstPress and
DirtyDisplayIsRedrawn: a state with no fault and one with a fault, a timer at 0 and at 255, a clean display and a dirty
one. -/
theorem test_witness_ticks :
    State.reset.faulted = false ∧ (State.reset.raise .stackUnderflow 0x00EE).faulted = true ∧ State.reset.st = 0 ∧
      (State.reset.setST 0xFF).faulted = false ∧ 0 < (State.reset.setST 0xFF).st.toNat ∧ State.reset.dirty = false ∧
      State.reset.displayClear.faulted = false ∧ State.reset.displayClear.dirty = true := by decide +kernel

/-- LateClockCatchesUp: the clock of 2.8 that is four periods behind; its first and last due call. -/
theorem test_witness_late_clock :
    (0 : Rat) < 60 ∧ (5 / 60 : Rat) - 1 / 60 ≥ (4 : Nat) * (1 / 60) ∧ (5 / 60 : Rat) - 1 / 60 < ((4 : Nat) + 1) * (1 / 60) ∧
      (0 : Nat) < 4 ∧ (3 : Nat) < 4 := by norm_num

/-- DueTicksPrecedeTheStep: reset with LDDT, STST or STDT at `pc`, at the first time at which all three clocks are
due. -/
theorem test_witness_due_ticks :
    (fetching 0xF307).faulted = false ∧ (fetching 0xF307).settings.wellFormed = true ∧
      decode (fetching 0xF307).fetchWord = .ok (.lddt 3) ∧ decode (fetching 0xF318).fetchWord = .ok (.stst 3) ∧
      decode (fetching 0xF315).fetchWord = .ok (.stdt 3) ∧
      (1 / 60 : Rat) - (fetching 0xF307).clkSound ≥ 1 / (fetching 0xF307).settings.soundHz ∧
      (1 / 60 : Rat) - (fetching 0xF307).clkDelay ≥ 1 / (fetching 0xF307).settings.delayHz ∧
      (1 / 60 : Rat) - (fetching 0xF307).clkCpu ≥ 1 / (fetching 0xF307).settings.cpuHz := by decide +kernel

/-- PollWithoutDueClockChangesNothing: the reset state at the time of reset. -/
theorem test_witness_no_due_clock :
    State.reset.settings.wellFormed = true ∧ (0 : Rat) - State.reset.clkSound < 1 / State.reset.settings.soundHz ∧
      (0 : Rat) - State.reset.clkDelay < 1 / State.reset.settings.delayHz ∧
      (0 : Rat) - State.reset.clkCpu < 1 / State.reset.settings.cpuHz := by decide +kernel

/-- NothingIsStuck, SettingsNeverChange, EveryInstructionKeepsItsFrame and HiddenStateIsUnobservable: settings a machine
can be constructed with, a step and an instruction that answer a next state. -/
theorem test_witness_next :
    State.reset.settings.wellFormed = true ∧
      (∃ t, step ((fetching 0xF307).setInbox [.event .delayTick]) = .next t) ∧
      ∃ t, exec (.cls) State.reset = .next t := ⟨by decide +kernel, ⟨_, rfl⟩, ⟨_, rfl⟩⟩

/-- StepKeepsInvariant: a state whose memory lists a cell, whose latch is armed and whose stack is full meets the
invariant, and a step from it answers a next state. -/
theorem test_witness_invariant :
    (State.depth ((fetching 0x6A55).setLatch true (some 3)) 16 0 0x202).Inv ∧
      (State.depth ((fetching 0x6A55).setLatch true (some 3)) 16 0 0x202).mem ≠ [] ∧
      ∃ t, step ((State.depth ((fetching 0x6A55).setLatch true (some 3)) 16 0 0x202).setInbox [.event .quit]) =
        .next t :=
  ⟨{ settings := by decide +kernel
     mem := by decide +kernel
     latch := fun _ => rfl
     stack := fun _ => by decide +kernel
     rng := .inl rfl
     clocks := ⟨⟨0, by simp [State.depth, fetching, State.placeWord, State.reset, State.init]; rfl⟩, ⟨0, by simp; rfl⟩, ⟨0, by simp; rfl⟩⟩ },
   by decide +kernel, ⟨_, rfl⟩⟩

/-- ConstructionMeetsInvariant, ResetValues and ConstructionPlacesRom: a machine is constructed with an empty ROM and
with one of two bytes. -/
theorem test_witness_construct :
    (∃ s, State.construct Settings.default [] = .ok s) ∧
      (∃ s, State.construct Settings.default [0x12, 0x00] = .ok s) ∧ (1 : Nat) < ([0x12, 0x00] : List Byte).length := by
  have h : Settings.default.wellFormed = true := by decide +kernel
  exact ⟨⟨State.init Settings.default, by simp only [State.construct, h]; rfl⟩,
    ⟨(State.init Settings.default).writeBytes 0x200 [0x12, 0x00], by simp only [State.construct, h]; rfl⟩, by decide⟩

/-- DecoderAgreesWithOpcodeTable: a word that two different rows' masks look at, accepted by one of them. -/
theorem test_witness_table :
    (⟨"SER", 0xF00F, 0x5000⟩ : OpcodeRow) ∈ opcodeTable ∧
      (⟨"SER", 0xF00F, 0x5000⟩ : OpcodeRow).accepts 0x5120 = true ∧
      (⟨"SER", 0xF00F, 0x5000⟩ : OpcodeRow).accepts 0x5121 = false := by decide +kernel

end Sys2Proof.Tests
end

/-! What every instruction leaves unchanged (10_state.md R10, R11, R30; 20_memory.md R56): one rule per branch of the
instructions that branch, then the frame, the registers and the bytes of memory, each by one split over the
instructions. -/
namespace Sys2Proof.Machine

/-! ### One rule per branch of the instructions that branch -/

/-- RET on an empty stack under `STACK_POLICY = fault` (60_exceptions.md R162). -/
theorem exec_ret_underflow {s : State} (h : s.settings.stackPolicy = .fault ∧ s.sp = 0) :
    exec .ret s = .next (s.raise .stackUnderflow (encode .ret)) := if_pos h

/-- RET otherwise (41_flow.md R91). -/
theorem exec_ret_pop {s : State} (h : ¬(s.settings.stackPolicy = .fault ∧ s.sp = 0)) :
    exec .ret s = .next s.popPc := if_neg h

/-- CALL on a full stack under `STACK_POLICY = fault` (60_exceptions.md R161). -/
theorem exec_call_overflow {s : State} (nnn : Addr12) (h : s.settings.stackPolicy = .fault ∧ s.sp = 16) :
    exec (.call nnn) s = .next (s.raise .stackOverflow (encode (.call nnn))) := if_pos h

/-- CALL otherwise (41_flow.md R93). -/
theorem exec_call_push {s : State} (nnn : Addr12) (h : ¬(s.settings.stackPolicy = .fault ∧ s.sp = 16)) :
    exec (.call nnn) s = .next (s.pushPc.setPc (zext16 nnn)) := if_neg h

/-- ADDA past `0xFFFF` under its quirk (43_index_memory.md R122). -/
theorem exec_adda_flag {s : State} {x : RegIdx}
    (h : (s.settings.addressOverflowQuirk && addressOverflow s.i (s.getV x)) = true) :
    exec (.adda x) s = .next ((s.setI (s.i + (s.getV x).setWidth 16)).setVF true) := if_pos h

/-- ADDA otherwise (43_index_memory.md R122). -/
theorem exec_adda_noFlag {s : State} {x : RegIdx}
    (h : ¬(s.settings.addressOverflowQuirk && addressOverflow s.i (s.getV x)) = true) :
    exec (.adda x) s = .next (s.setI (s.i + (s.getV x).setWidth 16)) := if_neg h

/-- LDKP while no key has come (45_keyboard_timers.md R146). -/
theorem exec_ldkp_wait {s u : State} (x : RegIdx) (h : s.pollWait = (u, none)) :
    exec (.ldkp x) s = .next u.rewind := by
  simp only [exec, execLdkp, h]

/-- LDKP when a key has come (45_keyboard_timers.md R146). -/
theorem exec_ldkp_key {s u : State} {k : Key} (x : RegIdx) (h : s.pollWait = (u, some k)) :
    exec (.ldkp x) s = .next (u.setV x (keyByte k)) := by
  simp only [exec, execLdkp, h]

/-! ### Frames of the operations that have none yet, and of an instruction -/

/-- Two frames in a row, under a list that names what either names. -/
theorem Frame.comp {w w' w'' : List Field} {s t u : State} (h : Frame w s t) (k : Frame w' t u)
    (hw : ∀ f ∈ w ++ w', f ∈ w'') : Frame w'' s u :=
  (h.mono fun f hf => hw f (List.mem_append_left _ hf)).trans
    (k.mono fun f hf => hw f (List.mem_append_right _ hf))

/-- A frame that does not name the registers fixes each of them. -/
theorem Frame.sameV {w : List Field} {l : List RegIdx} {s t : State} (h : Frame w s t) (hv : .v ∉ w) :
    SameV l s t := fun r _ => h .v hv r

/-- A frame that does not name the memory fixes each byte of it. -/
theorem Frame.sameMemOutside {w : List Field} {a k : Nat} {s t : State} (h : Frame w s t) (hm : .mem ∉ w) :
    SameMemOutside a k s t := fun b _ => h .mem hm b

theorem SameMemOutside.trans {a k : Nat} {s t u : State} (h : SameMemOutside a k s t)
    (h' : SameMemOutside a k t u) : SameMemOutside a k s u := fun b hb => (h' b hb).trans (h b hb)

/-- A write at one of the `k` addresses from `a` on. -/
theorem SameMemOutside.writeByte (s : State) {a k j : Nat} (hj : j < k) (b : Byte) :
    SameMemOutside a k s (s.writeByte (a + j) b) := by
  intro c hc
  rw [State.readByte_writeByte, if_neg (hc j hj)]

theorem Frame.setResultFlag (s : State) (x : RegIdx) (b : Byte) (f : Bool) :
    Frame [.v] s (s.setResultFlag x b f) := (Frame.setV s x b).trans (Frame.setV _ _ _)

theorem Frame.pollWait (s : State) : Frame [.waiting, .pending] s s.pollWait.1 := by
  rcases s.pollWait_cases with ⟨-, e⟩ | ⟨k, -, -, e⟩ | ⟨-, -, e⟩ <;> rw [e]
  · exact Frame.setLatch s _ _
  · exact Frame.setLatch s _ _
  · exact Frame.refl s _

/-- An instruction changes no other part of the state than those its row of `writes` names. -/
theorem exec_frame {i : Instr} {s t : State} (h : exec i s = .next t) : Frame (writes i) s t := by
  cases i with
  | cls => cases h; exact Frame.displayClear s
  | ret =>
    by_cases hc : s.settings.stackPolicy = .fault ∧ s.sp = 0
    · cases (exec_ret_underflow hc).symm.trans h
      exact (Frame.raise s _ _).mono (by simp [writes])
    · cases (exec_ret_pop hc).symm.trans h
      exact (Frame.popPc s).mono (by simp [writes])
  | call nnn =>
    by_cases hc : s.settings.stackPolicy = .fault ∧ s.sp = 16
    · cases (exec_call_overflow nnn hc).symm.trans h
      exact (Frame.raise s _ _).mono (by simp [writes])
    · cases (exec_call_push nnn hc).symm.trans h
      exact (Frame.pushPc s).comp (Frame.setPc _ _) (by simp [writes])
  | jp | jpv0 => cases h; exact Frame.setPc s _
  | seb | sneb | ser | sner | skp | sknp => cases h; exact Frame.skipIf s _
  | ldb | addb | ldr | or | and | xor | lddt => cases h; exact Frame.setV s _ _
  | addr | sub | subn | shr | shl => cases h; exact Frame.setResultFlag s _ _ _
  | rnd => cases h; exact (Frame.rngNext s).comp (Frame.setV _ _ _) (by simp [writes])
  | lda | ldf => cases h; exact Frame.setI s _
  | adda x =>
    by_cases hc : (s.settings.addressOverflowQuirk && addressOverflow s.i (s.getV x)) = true
    · cases (exec_adda_flag hc).symm.trans h
      exact (Frame.setI s _).comp (Frame.setV _ _ _) (by simp [writes])
    · cases (exec_adda_noFlag hc).symm.trans h
      exact (Frame.setI s _).mono (by simp [writes])
  | drw => cases h; exact (Frame.drawSprite s _ _ _).comp (Frame.setV _ _ _) (by simp [writes])
  | ldkp x =>
    have hw := Frame.pollWait s
    rcases hp : s.pollWait with ⟨u, _ | k⟩ <;> rw [hp] at hw
    · cases (exec_ldkp_wait x hp).symm.trans h
      exact hw.comp (Frame.setPc _ _) (by simp [writes])
    · cases (exec_ldkp_key x hp).symm.trans h
      exact hw.comp (Frame.setV _ _ _) (by simp [writes])
  | stdt => cases h; exact Frame.setDT s _
  | stst => cases h; exact Frame.setST s _
  | bcd => cases h; exact ((Frame.writeByte s _ _).trans (Frame.writeByte _ _ _)).trans (Frame.writeByte _ _ _)
  | strr => cases h; exact (Frame.storeBlock s _).comp (Frame.bumpI _ _) (by simp [writes])
  | ldrr => cases h; exact (Frame.loadBlock s _).comp (Frame.bumpI _ _) (by simp [writes])

/-- An instruction changes no other general register than those its row of `writesV` names. -/
theorem exec_sameV {i : Instr} {s t : State} (h : exec i s = .next t) : SameV (writesV i) s t := by
  cases i with
  | ldb | addb | ldr | or | and | xor | lddt => cases h; exact SameV.setV s _ _ (by simp [writesV])
  | rnd x kk =>
    cases h
    exact ((Frame.rngNext s).sameV (by decide)).trans (SameV.setV _ _ _ (by simp [writesV]))
  | addr | sub | subn | shr | shl =>
    cases h
    exact (SameV.setV s _ _ (by simp [writesV])).trans (SameV.setV _ _ _ (by simp [writesV]))
  | adda x =>
    by_cases hc : (s.settings.addressOverflowQuirk && addressOverflow s.i (s.getV x)) = true
    · cases (exec_adda_flag hc).symm.trans h
      exact ((Frame.setI s _).sameV (by decide)).trans (SameV.setV _ _ _ (by simp [writesV]))
    · cases (exec_adda_noFlag hc).symm.trans h
      exact (Frame.setI s _).sameV (by decide)
  | drw =>
    cases h
    exact ((Frame.drawSprite s _ _ _).sameV (by decide)).trans (SameV.setV _ _ _ (by simp [writesV]))
  | ldkp x =>
    have hw := Frame.pollWait s
    rcases hp : s.pollWait with ⟨u, _ | k⟩ <;> rw [hp] at hw
    · cases (exec_ldkp_wait x hp).symm.trans h
      exact (hw.sameV (by decide)).trans ((Frame.setPc _ _).sameV (by decide))
    · cases (exec_ldkp_key x hp).symm.trans h
      exact (hw.sameV (by decide)).trans (SameV.setV _ _ _ (by simp [writesV]))
  | ldrr x =>
    cases h
    intro r hr
    have hx := x.isLt
    have hlt : ¬ r.toNat < x.toNat + 1 := fun hlt =>
      hr (List.mem_map.mpr ⟨r.toNat, List.mem_range.mpr hlt, by simp⟩)
    rw [State.bumpI_getV, State.loadBlock_getV s _ (by omega), if_neg hlt]
  | _ => exact (exec_frame h).sameV (by simp [writes])

/-- An instruction changes no other byte of memory than the `storedBytes` bytes from `I` on. -/
theorem exec_sameMemOutside {i : Instr} {s t : State} (h : exec i s = .next t) :
    SameMemOutside s.i.toNat (storedBytes i) s t := by
  cases i with
  | bcd x =>
    cases h
    have hw (u : State) (j : Nat) (hj : j < 3) (b : Byte) := SameMemOutside.writeByte (a := s.i.toNat) u hj b
    exact ((hw s 0 (by decide) _).trans (hw _ 1 (by decide) _)).trans (hw _ 2 (by decide) _)
  | strr x =>
    cases h
    intro b hb
    exact (State.bumpI_readByte _ _ _).trans (State.storeBlock_outside s _ b hb)
  | _ => exact (exec_frame h).sameMemOutside (by simp [writes])

/-- Settles O53: the frame, the registers and the bytes of memory each by its own lemma about every instruction. -/
theorem everyInstructionKeepsItsFrame : Obligations.EveryInstructionKeepsItsFrame :=
  fun _ _ _ h => ⟨exec_frame h, exec_sameV h, exec_sameMemOutside h⟩

end Sys2Proof.Machine

/-! The invariant of the machine. For each of its parts: which operations touch what it speaks of, and why they keep
it; whatever leaves it alone keeps it by its frame. -/
namespace Sys2Proof.Machine

/-! ### The invariant: what each operation needs to keep it -/

/-- The canonical form of memory speaks of the cells and of the font's address only. -/
theorem State.MemOk.of_eq {s t : State} (h : s.MemOk) (hm : t.mem = s.mem) (hs : t.settings = s.settings) :
    t.MemOk := by
  unfold State.MemOk
  rw [hm, hs]
  exact h

theorem State.skipIf_mem (s : State) (c : Bool) : (s.skipIf c).mem = s.mem := by
  unfold State.skipIf
  split <;> rfl

theorem State.pollWait_mem (s : State) : s.pollWait.1.mem = s.mem := by
  rcases s.pollWait_cases with ⟨-, e⟩ | ⟨k, -, -, e⟩ | ⟨-, -, e⟩ <;> rw [e] <;> rfl

theorem State.pushEvent_mem (s : State) (k : Key) : (s.pushEvent k).mem = s.mem := by
  unfold State.pushEvent
  split <;> rfl

theorem State.delayTick_mem (s : State) : s.delayTick.mem = s.mem := by
  unfold State.delayTick
  split <;> rfl

theorem State.soundTick_mem (s : State) : s.soundTick.mem = s.mem := by
  unfold State.soundTick
  split <;> rfl

theorem State.afterStep_mem (s : State) : s.afterStep.mem = s.mem := by
  unfold State.afterStep
  split
  · rfl
  · split <;> rfl

/-- No instruction changes the Settings (00_scope.md R6, R191). -/
theorem exec_settings {i : Instr} {s t : State} (h : exec i s = .next t) : t.settings = s.settings :=
  exec_frame h .settings (by cases i <;> simp [writes])

/-- An instruction keeps memory in its canonical form. -/
theorem exec_memOk {i : Instr} {s t : State} (h : exec i s = .next t) (hm : s.MemOk) : t.MemOk := by
  have keep (hc : t.mem = s.mem) : t.MemOk := hm.of_eq hc (exec_settings h)
  cases i with
  | ret =>
    by_cases hc : s.settings.stackPolicy = .fault ∧ s.sp = 0
    · cases (exec_ret_underflow hc).symm.trans h; exact hm
    · cases (exec_ret_pop hc).symm.trans h; exact hm
  | call nnn =>
    by_cases hc : s.settings.stackPolicy = .fault ∧ s.sp = 16
    · cases (exec_call_overflow nnn hc).symm.trans h; exact hm
    · cases (exec_call_push nnn hc).symm.trans h; exact hm
  | seb | sneb | ser | sner | skp | sknp => refine keep ?_; cases h; exact State.skipIf_mem s _
  | adda x =>
    by_cases hc : (s.settings.addressOverflowQuirk && addressOverflow s.i (s.getV x)) = true
    · cases (exec_adda_flag hc).symm.trans h; exact hm
    · cases (exec_adda_noFlag hc).symm.trans h; exact hm
  | drw => refine keep ?_; cases h; exact (State.drawSprite_mem s _ _ _).1
  | ldkp x =>
    have hw := s.pollWait_mem
    rcases hp : s.pollWait with ⟨u, _ | k⟩ <;> rw [hp] at hw
    · refine keep ?_; cases (exec_ldkp_wait x hp).symm.trans h; exact hw
    · refine keep ?_; cases (exec_ldkp_key x hp).symm.trans h; exact hw
  | bcd =>
    cases h
    exact State.writeByte_memOk (State.writeByte_memOk (State.writeByte_memOk hm _ _) _ _) _ _
  | strr x =>
    cases h
    exact (State.storeBlock_memOk hm _).of_eq (State.bumpI_mem _ x) (Frame.bumpI _ x .settings (by decide))
  | ldrr x => refine keep ?_; cases h; exact (State.bumpI_mem _ x).trans (State.loadBlock_mem s _)
  | _ => cases h; exact hm

/-- `poll_wait` keeps a press pending only while the latch is armed (10_state.md R25). -/
theorem State.pollWait_latchOk {s : State} (h : s.LatchOk) : s.pollWait.1.LatchOk := by
  rcases s.pollWait_cases with ⟨-, e⟩ | ⟨k, -, -, e⟩ | ⟨-, -, e⟩ <;> rw [e]
  · exact fun _ => rfl
  · exact fun hp => absurd rfl hp
  · exact h

/-- `push_event` latches a press only while the latch is armed (10_state.md R25). -/
theorem State.pushEvent_latchOk {s : State} (h : s.LatchOk) (k : Key) : (s.pushEvent k).LatchOk := by
  unfold State.pushEvent
  split
  · rename_i hc
    exact fun _ => (Bool.and_eq_true_iff.mp hc).1
  · exact h

/-- The latch rule speaks of the two parts of the latch only. -/
theorem State.LatchOk.of_frame {w : List Field} {s t : State} (h : s.LatchOk) (hf : Frame w s t)
    (hp : .pending ∉ w) (hw : .waiting ∉ w) : t.LatchOk := by
  have hpend : t.pending = s.pending := hf .pending hp
  have hwait : t.waiting = s.waiting := hf .waiting hw
  unfold State.LatchOk
  rw [hpend, hwait]
  exact h

/-- LDKP is the only instruction that touches the latch, and keeps its rule (R25). -/
theorem exec_latchOk {i : Instr} {s t : State} (h : exec i s = .next t) (hl : s.LatchOk) : t.LatchOk := by
  cases i with
  | ldkp x =>
    have hw := State.pollWait_latchOk hl
    rcases hp : s.pollWait with ⟨u, _ | k⟩ <;> rw [hp] at hw
    · cases (exec_ldkp_wait x hp).symm.trans h; exact hw
    · cases (exec_ldkp_key x hp).symm.trans h; exact hw
  | _ => exact hl.of_frame (exec_frame h) (by simp [writes]) (by simp [writes])

/-- The stack bound speaks of `SP` and the Settings only. -/
theorem State.StackOk.of_frame {w : List Field} {s t : State} (h : s.StackOk) (hf : Frame w s t)
    (hsp : .sp ∉ w) (hs : .settings ∉ w) : t.StackOk := by
  have hspEq : t.sp = s.sp := hf .sp hsp
  have hset : t.settings = s.settings := hf .settings hs
  unfold State.StackOk
  rw [hspEq, hset]
  exact h

/-- CALL and RET are the only instructions that move `SP`; under `STACK_POLICY = fault` CALL leaves 16 and RET leaves 0
alone (10_state.md R14). -/
theorem exec_stackOk {i : Instr} {s t : State} (h : exec i s = .next t) (hs : s.StackOk) : t.StackOk := by
  cases i with
  | ret =>
    by_cases hc : s.settings.stackPolicy = .fault ∧ s.sp = 0
    · cases (exec_ret_underflow hc).symm.trans h; exact hs
    · cases (exec_ret_pop hc).symm.trans h
      intro hp
      have hle := hs hp
      have hne : s.sp ≠ 0 := fun h0 => hc ⟨hp, h0⟩
      rw [State.popPc_sp]
      bv_omega
  | call nnn =>
    by_cases hc : s.settings.stackPolicy = .fault ∧ s.sp = 16
    · cases (exec_call_overflow nnn hc).symm.trans h; exact hs
    · cases (exec_call_push nnn hc).symm.trans h
      intro hp
      have hle := hs hp
      have hne : s.sp ≠ 16 := fun h16 => hc ⟨hp, h16⟩
      rw [State.setPc_sp, State.pushPc_sp]
      bv_omega
  | _ => exact hs.of_frame (exec_frame h) (by simp [writes]) (by simp [writes])

/-- The generator's range speaks of the generator and the Settings only. -/
theorem State.RngOk.of_frame {w : List Field} {s t : State} (h : s.RngOk) (hf : Frame w s t)
    (hr : .rng ∉ w) (hs : .settings ∉ w) : t.RngOk := by
  have hrng : t.rng = s.rng := hf .rng hr
  have hset : t.settings = s.settings := hf .settings hs
  unfold State.RngOk
  rw [hrng, hset]
  exact h

/-- RND is the only instruction that advances the generator, to a value below `2^31 - 1` (10_state.md R26). -/
theorem exec_rngOk {i : Instr} {s t : State} (h : exec i s = .next t) (hr : s.RngOk) : t.RngOk := by
  cases i with
  | rnd x kk =>
    cases h
    exact .inr (Nat.le_of_lt_succ (Nat.mod_lt _ (by decide)))
  | _ => exact hr.of_frame (exec_frame h) (by simp [writes]) (by simp [writes])

/-- The parts of the state that `State.ClocksOk` speaks of. -/
def clockFields : List Field := [.settings, .clkCpu, .clkDelay, .clkSound]

/-- The clocks' grids speak of the three reference points and the Settings only. -/
theorem State.ClocksOk.of_frame {w : List Field} {s t : State} (h : s.ClocksOk) (hf : Frame w s t)
    (hw : ∀ f ∈ clockFields, f ∉ w) : t.ClocksOk := by
  have hset : t.settings = s.settings := hf .settings (hw _ (by decide))
  have hcpu : t.clkCpu = s.clkCpu := hf .clkCpu (hw _ (by decide))
  have hdelay : t.clkDelay = s.clkDelay := hf .clkDelay (hw _ (by decide))
  have hsound : t.clkSound = s.clkSound := hf .clkSound (hw _ (by decide))
  unfold State.ClocksOk
  rw [hset, hcpu, hdelay, hsound]
  exact h

/-- Every instruction keeps the invariant. -/
theorem exec_inv {i : Instr} {s t : State} (h : exec i s = .next t) (hi : s.Inv) : t.Inv where
  settings := (congrArg Settings.wellFormed (exec_settings h)).trans hi.settings
  mem := exec_memOk h hi.mem
  latch := exec_latchOk h hi.latch
  stack := exec_stackOk h hi.stack
  rng := exec_rngOk h hi.rng
  clocks := hi.clocks.of_frame (exec_frame h) (by cases i <;> simp [writes, clockFields])

/-! ### The invariant along a step -/

/-- The parts of the state the invariant speaks of, memory apart. -/
def invFields : List Field := [.settings, .waiting, .pending, .sp, .rng, .clkCpu, .clkDelay, .clkSound]

theorem clockFields_subset : clockFields ⊆ invFields := by decide

/-- An operation that leaves those parts and the memory cells alone keeps the invariant. -/
theorem State.Inv.of_frame {w : List Field} {s t : State} (hi : s.Inv) (hf : Frame w s t)
    (hw : ∀ f ∈ invFields, f ∉ w) (hm : t.mem = s.mem) : t.Inv where
  settings := (congrArg Settings.wellFormed (hf .settings (hw _ (by decide)))).trans hi.settings
  mem := hi.mem.of_eq hm (hf .settings (hw _ (by decide)))
  latch := hi.latch.of_frame hf (hw _ (by decide)) (hw _ (by decide))
  stack := hi.stack.of_frame hf (hw _ (by decide)) (hw _ (by decide))
  rng := hi.rng.of_frame hf (hw _ (by decide)) (hw _ (by decide))
  clocks := hi.clocks.of_frame hf fun f hm => hw f (clockFields_subset hm)

theorem State.prepare_inv {s : State} (hi : s.Inv) (l : KeyLevels) : (s.prepare l).Inv :=
  hi.of_frame (Frame.prepare s l) (by decide) rfl

theorem State.setInbox_inv {s : State} (hi : s.Inv) (l : List Input) : (s.setInbox l).Inv :=
  hi.of_frame (Frame.setInbox s l) (by decide) rfl

theorem State.quitLoop_inv {s : State} (hi : s.Inv) : s.quitLoop.Inv :=
  hi.of_frame (Frame.quitLoop s) (by decide) rfl

theorem State.delayTick_inv {s : State} (hi : s.Inv) : s.delayTick.Inv :=
  hi.of_frame (Frame.delayTick s) (by decide) s.delayTick_mem

theorem State.soundTick_inv {s : State} (hi : s.Inv) : s.soundTick.Inv :=
  hi.of_frame (Frame.soundTick s) (by decide) s.soundTick_mem

theorem State.afterStep_inv {s : State} (hi : s.Inv) : s.afterStep.Inv :=
  hi.of_frame (Frame.afterStep s) (by decide) s.afterStep_mem

theorem State.pushEvent_inv {s : State} (hi : s.Inv) (k : Key) : (s.pushEvent k).Inv where
  settings := (congrArg Settings.wellFormed (Frame.pushEvent s k .settings (by decide))).trans hi.settings
  mem := hi.mem.of_eq (s.pushEvent_mem k) (Frame.pushEvent s k .settings (by decide))
  latch := State.pushEvent_latchOk hi.latch k
  stack := hi.stack.of_frame (Frame.pushEvent s k) (by decide) (by decide)
  rng := hi.rng.of_frame (Frame.pushEvent s k) (by decide) (by decide)
  clocks := hi.clocks.of_frame (Frame.pushEvent s k) (by decide)

theorem State.keyEvent_inv {s : State} (hi : s.Inv) (k : Key) : (s.keyEvent k).Inv := by
  unfold State.keyEvent
  split
  · exact hi
  · exact State.pushEvent_inv hi k

/-- A new reference point of the CPU clock on its grid (60_exceptions.md R171). -/
theorem State.setClkCpu_inv {s : State} (hi : s.Inv) {r : Rat} (hr : OnGrid s.settings.t0 s.settings.cpuHz r) :
    (s.setClkCpu r).Inv :=
  { hi with clocks := ⟨hr, hi.clocks.2⟩ }

/-- A new reference point of the delay clock on its grid (R171). -/
theorem State.setClkDelay_inv {s : State} (hi : s.Inv) {r : Rat}
    (hr : OnGrid s.settings.t0 s.settings.delayHz r) : (s.setClkDelay r).Inv :=
  { hi with clocks := ⟨hi.clocks.1, hr, hi.clocks.2.2⟩ }

/-- A new reference point of the sound clock on its grid (R171). -/
theorem State.setClkSound_inv {s : State} (hi : s.Inv) {r : Rat}
    (hr : OnGrid s.settings.t0 s.settings.soundHz r) : (s.setClkSound r).Inv :=
  { hi with clocks := ⟨hi.clocks.1, hi.clocks.2.1, hr⟩ }

/-- The sound clock's check keeps the invariant, due or not. -/
theorem State.checkSound_inv {s : State} (hi : s.Inv) (now : Rat) : (s.checkSound now).Inv := by
  obtain ⟨-, -, hgrid⟩ := hi.clocks
  have hset := State.setClkSound_inv hi (hgrid.clockTick now)
  simp only [State.checkSound]
  split
  · exact State.soundTick_inv hset
  · exact hset

/-- The delay clock's check keeps the invariant, due or not. -/
theorem State.checkDelay_inv {s : State} (hi : s.Inv) (now : Rat) : (s.checkDelay now).Inv := by
  obtain ⟨-, hgrid, -⟩ := hi.clocks
  have hset := State.setClkDelay_inv hi (hgrid.clockTick now)
  simp only [State.checkDelay]
  split
  · exact State.delayTick_inv hset
  · exact hset

/-- A CPU step keeps the invariant: it does nothing, runs an instruction, or raises a fault (40_cycle.md R80). -/
theorem cpuStep_inv {l : KeyLevels} {s t : State} (h : cpuStep l s = .next t) (hi : s.Inv) : t.Inv := by
  rcases cpuStep_cases l s with ⟨-, e⟩ | ⟨i, -, -, e⟩ | ⟨err, -, -, e⟩ <;> rw [e] at h
  · cases h; exact hi
  · exact exec_inv h (State.prepare_inv hi l)
  · cases h
    exact (State.prepare_inv hi l).of_frame (Frame.raise _ _ _) (by decide) rfl

/-- What the CPU clock's check answers, when it answers a next state: the new reference point alone, or the end of a
CPU step made with it (60_exceptions.md R180). -/
theorem checkCpu_next {now : Rat} {l : KeyLevels} {s t : State} (h : checkCpu now l s = .next t) :
    t = s.setClkCpu (clockTick s.clkCpu s.settings.cpuHz now).1 ∨
      ∃ u, cpuStep l (s.setClkCpu (clockTick s.clkCpu s.settings.cpuHz now).1) = .next u ∧ t = u.afterStep := by
  simp only [checkCpu] at h
  split at h
  · split at h
    · rename_i u hu
      cases h
      exact .inr ⟨u, hu, rfl⟩
    · cases h
    · cases h
  · cases h
    exact .inl rfl

/-- The CPU clock's check keeps the invariant. -/
theorem checkCpu_inv {now : Rat} {l : KeyLevels} {s t : State} (h : checkCpu now l s = .next t) (hi : s.Inv) :
    t.Inv := by
  have hset := State.setClkCpu_inv hi (hi.clocks.1.clockTick now)
  rcases checkCpu_next h with rfl | ⟨u, hu, rfl⟩
  · exact hset
  · exact State.afterStep_inv (cpuStep_inv hu hset)

/-- An atomic event keeps the invariant (00_scope.md R9). -/
theorem eventStep_inv {e : Event} {s t : State} (h : eventStep e s = .next t) (hi : s.Inv) : t.Inv := by
  cases e with
  | cpuStep l => exact cpuStep_inv h hi
  | delayTick => cases h; exact State.delayTick_inv hi
  | soundTick => cases h; exact State.soundTick_inv hi
  | keyEvent k => cases h; exact State.keyEvent_inv hi k
  | quit => cases h; exact State.quitLoop_inv hi

/-- An iteration of the host loop keeps the invariant (60_exceptions.md R180). -/
theorem pollStep_inv {p : Poll} {s t : State} (h : pollStep p s = .next t) (hi : s.Inv) : t.Inv := by
  cases p with
  | quit => cases h; exact State.quitLoop_inv hi
  | keyPress k => cases h; exact State.keyEvent_inv hi k
  | idle now l =>
    simp only [pollStep, hi.settings, if_true] at h
    exact checkCpu_inv h (State.checkDelay_inv (State.checkSound_inv hi now) now)

/-- Settles O55: each kind of input keeps the invariant, and a step serves one of them. -/
theorem stepKeepsInvariant : Obligations.StepKeepsInvariant := by
  intro s t hi h
  rcases step_cases s with ⟨-, e⟩ | ⟨-, -, e⟩ | ⟨ev, rest, -, -, e⟩ | ⟨p, rest, -, -, e⟩ <;> rw [e] at h
  · cases h; exact hi
  · exact cpuStep_inv h hi
  · exact eventStep_inv h (State.setInbox_inv hi rest)
  · exact pollStep_inv h (State.setInbox_inv hi rest)

end Sys2Proof.Machine

/-! What no instruction reads (10_state.md R30): each operation commutes with replacing it. -/
namespace Sys2Proof.Machine

/-! ### Hidden state: each operation does the same whatever the dirty flag, the sound flag and the clocks hold -/

section Hidden
variable (s : State) (d n : Bool) (a b c : Rat)

@[simp] theorem State.withHidden_settings : (s.withHidden d n a b c).settings = s.settings := rfl
@[simp] theorem State.withHidden_waiting : (s.withHidden d n a b c).waiting = s.waiting := rfl
@[simp] theorem State.withHidden_pending : (s.withHidden d n a b c).pending = s.pending := rfl

theorem State.skipIf_withHidden (p : Bool) :
    (s.withHidden d n a b c).skipIf p = (s.skipIf p).withHidden d n a b c := by
  unfold State.skipIf
  split <;> rfl

theorem State.bumpI_withHidden (x : RegIdx) :
    (s.withHidden d n a b c).bumpI x = (s.bumpI x).withHidden d n a b c := by
  unfold State.bumpI
  rw [State.withHidden_settings]
  split <;> rfl

theorem State.storeBlock_withHidden (k : Nat) :
    (s.withHidden d n a b c).storeBlock k = (s.storeBlock k).withHidden d n a b c := by
  induction k with
  | zero => rfl
  | succ k ih => rw [State.storeBlock, ih]; rfl

theorem State.loadBlock_withHidden (k : Nat) :
    (s.withHidden d n a b c).loadBlock k = (s.loadBlock k).withHidden d n a b c := by
  induction k with
  | zero => rfl
  | succ k ih => rw [State.loadBlock, ih]; rfl

theorem State.pollWait_withHidden :
    (s.withHidden d n a b c).pollWait = (s.pollWait.1.withHidden d n a b c, s.pollWait.2) := by
  unfold State.pollWait
  rw [State.withHidden_waiting, State.withHidden_pending]
  split
  · rfl
  · split <;> rfl

theorem State.setPixel_withHidden (x y : Nat) (v : Bool) :
    (s.withHidden d n a b c).setPixel x y v =
      ((s.setPixel x y v).1.withHidden (d || v) n a b c, (s.setPixel x y v).2) := by
  cases v
  · rw [Bool.or_false]; rfl
  · rw [Bool.or_true]; rfl

theorem State.drawRow_withHidden (x0 yy : Nat) (row : Byte) (k : Nat) :
    ∃ d', (s.withHidden d n a b c).drawRow x0 yy row k =
      ((s.drawRow x0 yy row k).1.withHidden d' n a b c, (s.drawRow x0 yy row k).2) := by
  induction k with
  | zero => exact ⟨d, rfl⟩
  | succ k ih =>
    obtain ⟨d', ih⟩ := ih
    exact ⟨d' || spritePixel row k, by simp only [State.drawRow, ih, State.setPixel_withHidden]⟩

theorem State.drawSprite_withHidden (x0 y0 k : Nat) :
    ∃ d', (s.withHidden d n a b c).drawSprite x0 y0 k =
      ((s.drawSprite x0 y0 k).1.withHidden d' n a b c, (s.drawSprite x0 y0 k).2) := by
  induction k with
  | zero => exact ⟨d, rfl⟩
  | succ k ih =>
    obtain ⟨d', ih⟩ := ih
    have hskip : (s.withHidden d n a b c).rowSkipped y0 k = s.rowSkipped y0 k := rfl
    have hrow : (s.withHidden d n a b c).readByte ((s.withHidden d n a b c).indexed k) = s.readByte (s.indexed k) := rfl
    simp only [State.drawSprite, ih, hskip, hrow]
    cases s.rowSkipped y0 k with
    | true => exact ⟨d', rfl⟩
    | false =>
      obtain ⟨d'', hr⟩ := State.drawRow_withHidden (s.drawSprite x0 y0 k).1 d' n a b c x0 (y0 + k)
        (s.readByte (s.indexed k)) 8
      exact ⟨d'', by simp only [Bool.false_eq_true, if_false, hr]⟩

end Hidden

/-- An instruction does the same to everything else whatever the hidden state holds, and leaves the sound flag and the
clocks as they are. -/
theorem exec_withHidden {i : Instr} {s t : State} (d n : Bool) (a b c : Rat) (h : exec i s = .next t) :
    ∃ d', exec i (s.withHidden d n a b c) = .next (t.withHidden d' n a b c) := by
  cases i with
  | cls => cases h; exact ⟨true, rfl⟩
  | ret =>
    by_cases hc : s.settings.stackPolicy = .fault ∧ s.sp = 0
    · cases (exec_ret_underflow hc).symm.trans h
      exact ⟨d, exec_ret_underflow hc⟩
    · cases (exec_ret_pop hc).symm.trans h
      exact ⟨d, exec_ret_pop hc⟩
  | call nnn =>
    by_cases hc : s.settings.stackPolicy = .fault ∧ s.sp = 16
    · cases (exec_call_overflow nnn hc).symm.trans h
      exact ⟨d, exec_call_overflow nnn hc⟩
    · cases (exec_call_push nnn hc).symm.trans h
      exact ⟨d, exec_call_push nnn hc⟩
  | adda x =>
    by_cases hc : (s.settings.addressOverflowQuirk && addressOverflow s.i (s.getV x)) = true
    · cases (exec_adda_flag hc).symm.trans h
      exact ⟨d, exec_adda_flag hc⟩
    · cases (exec_adda_noFlag hc).symm.trans h
      exact ⟨d, exec_adda_noFlag hc⟩
  | seb | sneb | ser | sner | skp | sknp =>
    cases h
    exact ⟨d, congrArg Host.Outcome.next (State.skipIf_withHidden s d n a b c _)⟩
  | drw x y k =>
    cases h
    obtain ⟨d', hd⟩ := State.drawSprite_withHidden s d n a b c (s.getV x).toNat (s.getV y).toNat k.toNat
    exact ⟨d', congrArg (fun p : State × Bool => Host.Outcome.next (p.1.setVF p.2)) hd⟩
  | ldkp x =>
    have hw := State.pollWait_withHidden s d n a b c
    rcases hp : s.pollWait with ⟨u, _ | k⟩ <;> rw [hp] at hw
    · cases (exec_ldkp_wait x hp).symm.trans h
      exact ⟨d, exec_ldkp_wait x hw⟩
    · cases (exec_ldkp_key x hp).symm.trans h
      exact ⟨d, exec_ldkp_key x hw⟩
  | strr x =>
    cases h
    exact ⟨d, by simp only [exec, execStrr, State.storeBlock_withHidden, State.bumpI_withHidden]⟩
  | ldrr x =>
    cases h
    exact ⟨d, by simp only [exec, execLdrr, State.loadBlock_withHidden, State.bumpI_withHidden]⟩
  | _ => cases h; exact ⟨d, rfl⟩

/-- Settles O58, by `exec_withHidden`. -/
theorem hiddenStateIsUnobservable : Obligations.HiddenStateIsUnobservable :=
  fun _ _ _ d n a b c h => exec_withHidden d n a b c h

end Sys2Proof.Machine

/-! The state after construction with an empty ROM (10_state.md R31). -/
namespace Sys2Proof.Machine

/-! ### Reset -/

/-- Construction with an empty ROM answers the state after reset, and only from settings that pass their check. -/
theorem State.construct_nil {c : Settings} {s : State} (h : State.construct c [] = .ok s) :
    c.wellFormed = true ∧ s = State.init c := by
  unfold State.construct at h
  cases hc : c.wellFormed with
  | false => rw [hc] at h; cases h
  | true => rw [hc] at h; cases h; exact ⟨rfl, rfl⟩

/-- Settings that pass their check have the font below the program (D15). -/
theorem Settings.fontBase_le {c : Settings} (h : c.wellFormed = true) : c.fontBase + 80 ≤ 0x200 := by
  simp only [Settings.wellFormed, Settings.fontOk, Bool.and_eq_true, decide_eq_true_eq] at h
  obtain ⟨⟨-, hfont⟩, -⟩ := h
  exact hfont

/-- A byte after reset, inside the 4096 bytes (20_memory.md R50). -/
theorem State.init_readByte (c : Settings) {a : Nat} (ha : a < 4096) :
    (State.init c).readByte a = resetByte c.fontBase a := by
  have hmod : a % 4096 = a := Nat.mod_eq_of_lt ha
  simp only [State.readByte, hmod]
  rfl

/-- The font bytes after reset (R49, R50). -/
theorem State.init_font {c : Settings} (h : c.fontBase + 80 ≤ 0x200) {k : Nat} (hk : k < 80) :
    (State.init c).readByte (c.fontBase + k) = fontByte k := by
  rw [State.init_readByte c (by omega), resetByte, if_pos (by omega), Nat.add_sub_cancel_left]

/-- Every other byte after reset (R50). -/
theorem State.init_outside_font (c : Settings) {a : Nat} (ha : a < 4096)
    (h : ¬(c.fontBase ≤ a ∧ a < c.fontBase + 80)) : (State.init c).readByte a = 0 := by
  rw [State.init_readByte c ha, resetByte, if_neg h]

theorem State.init_getV (c : Settings) (r : RegIdx) : (State.init c).getV r = 0 :=
  Vector.getElem_replicate _

theorem State.init_isDown (c : Settings) (k : Key) : (State.init c).isDown k = false :=
  Vector.getElem_replicate _

theorem State.init_pixel (c : Settings) (x y : Nat) : (State.init c).pixel x y = false := by
  simp [State.pixel, State.init]

/-- Settles O59: the state is that of `State.init`, whose fields are the stated ones and whose bytes are `fontByte` on
the font and 0 elsewhere. -/
theorem resetValues : Obligations.ResetValues := by
  intro c s h
  obtain ⟨hc, rfl⟩ := State.construct_nil h
  have hfont : (List.range 80).map (fun k => (State.init c).readByte (c.fontBase + k)) =
      (List.range 80).map fontByte :=
    List.map_congr_left fun k hk => State.init_font (Settings.fontBase_le hc) (List.mem_range.mp hk)
  refine ⟨State.init_getV c, rfl, rfl, rfl, fun j hj => Vector.getElem_replicate _, rfl, rfl, rfl, State.init_pixel c,
    rfl, State.init_isDown c, rfl, rfl, rfl, rfl, rfl, rfl, rfl, rfl, ?_, fun a => State.init_outside_font c⟩
  rw [hfont]
  decide

end Sys2Proof.Machine

/-! Fetching and decoding a placed instruction (20_memory.md R44; 40_cycle.md R80, R81): the decoder inverts the
encoder, and the fetch reads back the two bytes that `placeWord` writes, so the next step is the instruction placed. -/
namespace Sys2Proof

/-- The decoder inverts the encoder (30_encoding.md R63, R64), by the format of the instruction's row and, in
families `8`, `E` and `F`, by the selector. -/
theorem decode_encode (i : Instr) : decode (encode i) = .ok i := by
  cases i with
  | cls | ret => decide
  | jp | call | lda | jpv0 => simp [encode, decode]
  | seb | sneb | ldb | addb | rnd => simp [encode, decode]
  | drw | ser | sner => simp [encode, decode]
  | ldr | or | and | xor | addr | sub | shr | subn | shl => simp [encode, decode, decode8]
  | skp | sknp => simp [encode, decode, decodeE]
  | lddt | ldkp | stdt | stst | adda | ldf | bcd | strr | ldrr => simp [encode, decode, decodeF]

end Sys2Proof

namespace Sys2Proof.Machine

/-! ### The fetch -/

/-- A read reduces its address (R41), so reducing it before changes nothing. -/
theorem State.readByte_mod (s : State) (a : Nat) : s.readByte (a % 4096) = s.readByte a := by
  simp only [State.readByte, Nat.mod_mod]

/-- The word of two bytes in memory as a number, the first the high one (R44). -/
theorem State.readWord_toNat (s : State) (a : Nat) :
    (s.readWord a).toNat = (s.readByte a).toNat * 256 + (s.readByte (a + 1)).toNat :=
  wordOfBytes_toNat _ _

/-- Settles O7: the fetch is the big-endian read at `pc`, and each read reduces its own address. -/
theorem fetchIsBigEndianMod4096 : Obligations.FetchIsBigEndianMod4096 := by
  intro s
  rw [State.readByte_mod, State.readByte_mod, State.fetchWord, State.readWord_toNat, Nat.mul_comm]

/-! ### A word placed at `pc` -/

@[simp] theorem State.placeWord_keys (s : State) (w : Word) : (s.placeWord w).keys = s.keys := rfl
@[simp] theorem State.placeWord_pc (s : State) (w : Word) : (s.placeWord w).pc = s.pc := rfl
@[simp] theorem State.placeWord_faulted (s : State) (w : Word) : (s.placeWord w).faulted = false := rfl
@[simp] theorem State.placeWord_over (s : State) (w : Word) : (s.placeWord w).over = false := rfl
@[simp] theorem State.placeWord_inbox (s : State) (w : Word) : (s.placeWord w).platform.inbox = [] := rfl

/-- The bytes of memory after a word is placed: its low byte at `pc + 1`, its high byte at `pc`, each mod 4096. -/
theorem State.placeWord_readByte (s : State) (w : Word) (a : Nat) :
    (s.placeWord w).readByte a =
      if a % 4096 = (s.pc.toNat + 1) % 4096 then w.extractLsb' 0 8
      else if a % 4096 = s.pc.toNat % 4096 then w.extractLsb' 8 8
      else s.readByte a := by
  have hbytes : (s.placeWord w).readByte a =
      ((s.writeByte s.pc.toNat (w.extractLsb' 8 8)).writeByte (s.pc.toNat + 1) (w.extractLsb' 0 8)).readByte a := rfl
  rw [hbytes, State.readByte_writeByte, State.readByte_writeByte]

/-- The fetch reads the placed word, at the top of memory too: `pc` and `pc + 1` never meet mod 4096. -/
@[simp] theorem State.placeWord_fetchWord (s : State) (w : Word) : (s.placeWord w).fetchWord = w := by
  have hne : s.pc.toNat % 4096 ≠ (s.pc.toNat + 1) % 4096 := by omega
  rw [State.fetchWord, State.placeWord_pc, State.readWord, State.placeWord_readByte, State.placeWord_readByte,
    if_neg hne, if_pos rfl, if_pos rfl, wordOfBytes_bytesOfWord]

/-- A word of 16 bits is placed as it is. -/
theorem State.withFetchWord_toNat (s : State) (w : Word) : s.withFetchWord 16 w.toNat = s.placeWord w := by
  rw [State.withFetchWord, Nat.mod_eq_of_lt w.isLt, BitVec.ofNat_toNat, BitVec.setWidth_eq]

/-! ### The step that runs it -/

/-- A CPU step with no fault whose word decodes executes the instruction (40_cycle.md R80). -/
theorem cpuStep_of_decode {s : State} {i : Instr} (l : KeyLevels) (hf : s.faulted = false)
    (hd : decode s.fetchWord = .ok i) : cpuStep l s = exec i (s.prepare l) := by
  simp [cpuStep, hf, hd]

/-- Settles O8: the placed state is one in which the CPU steps, and the fetch gives the placed word back. -/
theorem placedInstructionRuns : Obligations.PlacedInstructionRuns := by
  intro s i
  have hdec : decode (s.placeWord (encode i)).fetchWord = .ok i := by
    rw [State.placeWord_fetchWord, decode_encode]
  rw [State.withFetchWord_toNat, step_idle (State.placeWord_over s _) (State.placeWord_inbox s _),
    State.placeWord_keys, cpuStep_of_decode s.keys (State.placeWord_faulted s _) hdec]

end Sys2Proof.Machine

/-! The decoder against the encoder and the opcode table (30_encoding.md R60 to R68): one case lemma about `decode`
says that a word either is the encoding of what it decodes to or is in the list of R65 and carried by the verdict. -/
namespace Sys2Proof

/-! ### A word is rebuilt from its fields (R61, R62) -/

theorem formA_fields {op : BitVec 4} {w : Word} (hop : opField w = op) : formA op (nnnField w) = w := by
  subst hop
  apply BitVec.eq_of_toNat_eq
  rw [formA_toNat, opField_toNat, nnnField_toNat]
  omega

theorem formXK_fields {op : BitVec 4} {kk : Byte} {w : Word} (hop : opField w = op) (hkk : kkField w = kk) :
    formXK op (xField w) kk = w := by
  subst hop hkk
  apply BitVec.eq_of_toNat_eq
  rw [formXK_toNat, opField_toNat, xField_toNat, kkField_toNat]
  omega

theorem formXYN_fields {op n : BitVec 4} {w : Word} (hop : opField w = op) (hn : nField w = n) :
    formXYN op (xField w) (yField w) n = w := by
  subst hop hn
  apply BitVec.eq_of_toNat_eq
  rw [formXYN_toNat, opField_toNat, xField_toNat, yField_toNat, nField_toNat]
  omega

/-! ### What the decoder answers -/

/-- The words of the table of R65, family by family. -/
def ListedInvalid (w : Word) : Prop :=
  (opField w = 0x0 ∧ w ≠ 0x00E0 ∧ w ≠ 0x00EE) ∨ (opField w = 0x5 ∧ nField w ≠ 0) ∨
  (opField w = 0x8 ∧ nField w ∈ ([0x8, 0x9, 0xA, 0xB, 0xC, 0xD, 0xF] : List (BitVec 4))) ∨
  (opField w = 0x9 ∧ nField w ≠ 0) ∨ (opField w = 0xE ∧ kkField w ∉ ([0x9E, 0xA1] : List Byte)) ∨
  (opField w = 0xF ∧
    kkField w ∉ ([0x07, 0x0A, 0x15, 0x18, 0x1E, 0x29, 0x33, 0x55, 0x65] : List Byte))

/-- What a decoder may answer on `w`: an instruction whose encoding is `w`, or `Invalid` carrying `w` if `listed`. -/
inductive Verdict (w : Word) (listed : Prop) : Except Invalid Instr → Prop
  | ok {i : Instr} (henc : encode i = w) : Verdict w listed (.ok i)
  | error (hlisted : listed) : Verdict w listed (.error ⟨w⟩)

theorem Verdict.mono {w : Word} {p q : Prop} {d : Except Invalid Instr} (hpq : p → q) (h : Verdict w p d) :
    Verdict w q d := by
  cases h with
  | ok henc => exact .ok henc
  | error hp => exact .error (hpq hp)

theorem decode8_verdict {w : Word} (hop : opField w = 0x8) :
    Verdict w (nField w ∈ ([0x8, 0x9, 0xA, 0xB, 0xC, 0xD, 0xF] : List (BitVec 4))) (decode8 w) := by
  have hlt := (nField w).isLt
  unfold decode8
  split
  case h_10 =>
    refine .error ?_
    simp only [imp_false, List.mem_cons, List.not_mem_nil, or_false, BitVec.toNat_eq, BitVec.reduceToNat] at *
    omega
  all_goals exact .ok (formXYN_fields hop (BitVec.eq_of_toNat_eq ‹_›))

theorem decodeE_verdict {w : Word} (hop : opField w = 0xE) :
    Verdict w (kkField w ∉ ([0x9E, 0xA1] : List Byte)) (decodeE w) := by
  unfold decodeE
  split
  case h_3 =>
    refine .error ?_
    simp only [imp_false, List.mem_cons, List.not_mem_nil, or_false, BitVec.toNat_eq, BitVec.reduceToNat] at *
    omega
  all_goals exact .ok (formXK_fields hop (BitVec.eq_of_toNat_eq ‹_›))

theorem decodeF_verdict {w : Word} (hop : opField w = 0xF) :
    Verdict w (kkField w ∉ ([0x07, 0x0A, 0x15, 0x18, 0x1E, 0x29, 0x33, 0x55, 0x65] : List Byte)) (decodeF w) := by
  unfold decodeF
  split
  case h_10 =>
    refine .error ?_
    simp only [imp_false, List.mem_cons, List.not_mem_nil, or_false, BitVec.toNat_eq, BitVec.reduceToNat] at *
    omega
  all_goals exact .ok (formXK_fields hop (BitVec.eq_of_toNat_eq ‹_›))

/-- Everything the decoder can answer: an instruction that encodes to the word, or the verdict on a listed word. The
case of family `k` is the decoder's arm `k + 1`. -/
theorem decode_verdict (w : Word) : Verdict w (ListedInvalid w) (decode w) := by
  have hlt := (opField w).isLt
  unfold decode
  split
  case h_1 h =>
    have hop : opField w = 0x0 := BitVec.eq_of_toNat_eq h
    split_ifs with hcls hret
    · exact .ok hcls.symm
    · exact .ok hret.symm
    · exact .error (.inl ⟨hop, hcls, hret⟩)
  case h_6 h =>
    have hop : opField w = 0x5 := BitVec.eq_of_toNat_eq h
    split_ifs with hn
    · exact .ok (formXYN_fields hop hn)
    · exact .error (.inr (.inl ⟨hop, hn⟩))
  case h_9 h =>
    have hop : opField w = 0x8 := BitVec.eq_of_toNat_eq h
    exact (decode8_verdict hop).mono fun hn => .inr (.inr (.inl ⟨hop, hn⟩))
  case h_10 h =>
    have hop : opField w = 0x9 := BitVec.eq_of_toNat_eq h
    split_ifs with hn
    · exact .ok (formXYN_fields hop hn)
    · exact .error (.inr (.inr (.inr (.inl ⟨hop, hn⟩))))
  case h_14 h => exact .ok (formXYN_fields (BitVec.eq_of_toNat_eq h) rfl)
  case h_15 h =>
    have hop : opField w = 0xE := BitVec.eq_of_toNat_eq h
    exact (decodeE_verdict hop).mono fun hk => .inr (.inr (.inr (.inr (.inl ⟨hop, hk⟩))))
  case h_16 =>
    have hop : opField w = 0xF := BitVec.eq_of_toNat_eq (by simp only [imp_false, BitVec.reduceToNat] at *; omega)
    exact (decodeF_verdict hop).mono fun hk => .inr (.inr (.inr (.inr (.inr ⟨hop, hk⟩))))
  -- the families of formats `A` and `XK`
  case h_2 h | h_3 h | h_11 h | h_12 h => exact .ok (formA_fields (BitVec.eq_of_toNat_eq h))
  case h_4 h | h_5 h | h_7 h | h_8 h | h_13 h => exact .ok (formXK_fields (BitVec.eq_of_toNat_eq h) rfl)

theorem encode_of_decode_ok {w : Word} {i : Instr} (h : decode w = .ok i) : encode i = w := by
  have hv := decode_verdict w
  rw [h] at hv
  cases hv with
  | ok henc => exact henc

theorem eq_of_decode_error {w : Word} {e : Invalid} (h : decode w = .error e) : e = ⟨w⟩ := by
  have hv := decode_verdict w
  rw [h] at hv
  cases hv with
  | error => rfl

theorem listedInvalid_of_decode_error {w : Word} {e : Invalid} (h : decode w = .error e) : ListedInvalid w := by
  have hv := decode_verdict w
  rw [h] at hv
  cases hv with
  | error hlisted => exact hlisted

/-- No encoding is in the list: its fields are those of its format. -/
theorem not_listedInvalid_encode (i : Instr) : ¬ ListedInvalid (encode i) := by
  cases i with
  | cls | ret => unfold ListedInvalid; decide
  | _ => simp [ListedInvalid, encode]

/-! ### Decoder and encoder -/

/-- The bytes of an instruction decode to it, whatever follows them (R44, R60). -/
theorem decodeBytes_encodeBytes_append (i : Instr) (rest : List Byte) :
    decodeBytes (encodeBytes i ++ rest) = .ok (i, rest) := by
  rw [encodeBytes, bytesOfWord, List.cons_append, List.cons_append, List.nil_append, decodeBytes_cons_cons,
    wordOfBytes_bytesOfWord, decode_encode]

/-- Settles O2, by `decode_encode`, the word of the two bytes being the encoding. -/
theorem decodeInvertsEncode : Obligations.DecodeInvertsEncode :=
  fun i => ⟨decode_encode i, decodeBytes_encodeBytes_append i⟩

/-- A decoding tells its word: an instruction by its encoding, an `Invalid` by the word it carries (R68). -/
theorem decode_injective : Function.Injective decode := by
  intro w w' h
  cases hd : decode w' with
  | ok i => rw [← encode_of_decode_ok (h.trans hd), encode_of_decode_ok hd]
  | error e => exact congrArg Invalid.word ((eq_of_decode_error (h.trans hd)).symm.trans (eq_of_decode_error hd))

/-- Settles O3: `decode_verdict` read off for each answer. -/
theorem encodeInvertsDecode : Obligations.EncodeInvertsDecode :=
  ⟨fun _ _ => encode_of_decode_ok, fun _ _ h => congrArg Invalid.word (eq_of_decode_error h),
    fun _ _ h => decode_injective h⟩

/-- Settles O5: only listed words are refused, and a word that decodes is an encoding, which is never listed. -/
theorem invalidWordsAreThoseListed : Obligations.InvalidWordsAreThoseListed := by
  intro w
  refine ⟨fun ⟨e, he⟩ => listedInvalid_of_decode_error he, fun hlisted => ?_⟩
  cases hd : decode w with
  | ok i => exact absurd (encode_of_decode_ok hd ▸ hlisted) (not_listedInvalid_encode i)
  | error e => exact ⟨e, rfl⟩

/-- Settles O1: each word is a concrete one. -/
theorem wordsWrittenOutDecode : Obligations.WordsWrittenOutDecode := by
  unfold Obligations.WordsWrittenOutDecode
  decide

/-! ### The opcode table -/

/-- The rows of the table are told apart by their mnemonics. -/
theorem opcodeTable_eq_of_mnemonic_eq {r r' : OpcodeRow} (hr : r ∈ opcodeTable) (hr' : r' ∈ opcodeTable)
    (h : r.mnemonic = r'.mnemonic) : r = r' :=
  List.inj_on_of_nodup_map (f := OpcodeRow.mnemonic) (by decide) hr hr' h

/-- Every instruction's word is accepted by the row of its mnemonic (R63). -/
theorem Laws.TableRow.statement : ∀ i : Instr, Statement i
  | .cls => cls | .ret => ret
  | .jp nnn => jp nnn | .call nnn => call nnn
  | .seb x kk => seb x kk | .sneb x kk => sneb x kk | .ser x y => ser x y
  | .ldb x kk => ldb x kk | .addb x kk => addb x kk
  | .ldr x y => ldr x y | .or x y => or x y | .and x y => and x y
  | .xor x y => xor x y | .addr x y => addr x y | .sub x y => sub x y
  | .shr x y => shr x y | .subn x y => subn x y | .shl x y => shl x y
  | .sner x y => sner x y
  | .lda nnn => lda nnn | .jpv0 nnn => jpv0 nnn
  | .rnd x kk => rnd x kk | .drw x y n => drw x y n
  | .skp x => skp x | .sknp x => sknp x
  | .lddt x => lddt x | .ldkp x => ldkp x | .stdt x => stdt x | .stst x => stst x
  | .adda x => adda x | .ldf x => ldf x | .bcd x => bcd x
  | .strr x => strr x | .ldrr x => ldrr x

theorem accepts_iff {name : String} {mask m w : Word} :
    OpcodeRow.accepts ⟨name, mask, m⟩ w = true ↔ w &&& mask = m :=
  beq_iff_eq

/-- A row tests a field of the word whose bits its mask holds in full. -/
theorem opField_of_accepts {name : String} {mask m w : Word} (h : OpcodeRow.accepts ⟨name, mask, m⟩ w = true)
    (hmask : opField mask = 0xF) : opField w = opField m := by
  rw [← accepts_iff.mp h, opField, opField, BitVec.extractLsb'_and]
  exact ((congrArg _ hmask).trans BitVec.and_allOnes).symm

theorem nField_of_accepts {name : String} {mask m w : Word} (h : OpcodeRow.accepts ⟨name, mask, m⟩ w = true)
    (hmask : nField mask = 0xF) : nField w = nField m := by
  rw [← accepts_iff.mp h, nField, nField, BitVec.extractLsb'_and]
  exact ((congrArg _ hmask).trans BitVec.and_allOnes).symm

theorem kkField_of_accepts {name : String} {mask m w : Word} (h : OpcodeRow.accepts ⟨name, mask, m⟩ w = true)
    (hmask : kkField mask = 0xFF) : kkField w = kkField m := by
  rw [← accepts_iff.mp h, kkField, kkField, BitVec.extractLsb'_and]
  exact ((congrArg _ hmask).trans BitVec.and_allOnes).symm

section AcceptedWord
variable {name : String} {op : BitVec 4} {w : Word}

/-! A word that a row accepts is rebuilt from the row's pattern and the operands: the converses of
`Laws.TableRow.accepts_formA` and its neighbours. -/

theorem eq_of_accepts_fixed {m : Word} (h : OpcodeRow.accepts ⟨name, 0xFFFF#16, m⟩ w = true) : m = w :=
  (accepts_iff.mp h).symm.trans BitVec.and_allOnes

theorem formA_of_accepts (h : OpcodeRow.accepts ⟨name, 0xF000#16, formA op 0#12⟩ w = true) :
    formA op (nnnField w) = w :=
  formA_fields ((opField_of_accepts h (by decide)).trans (opField_formA ..))

theorem formXK_of_accepts (h : OpcodeRow.accepts ⟨name, 0xF000#16, formXK op 0#4 0#8⟩ w = true) :
    formXK op (xField w) (kkField w) = w :=
  formXK_fields ((opField_of_accepts h (by decide)).trans (opField_formXK ..)) rfl

theorem formXF_of_accepts {sel : Byte} (h : OpcodeRow.accepts ⟨name, 0xF0FF#16, formXK op 0#4 sel⟩ w = true) :
    formXK op (xField w) sel = w :=
  formXK_fields ((opField_of_accepts h (by decide)).trans (opField_formXK ..))
    ((kkField_of_accepts h (by decide)).trans (kkField_formXK ..))

theorem formXY_of_accepts {sel : BitVec 4}
    (h : OpcodeRow.accepts ⟨name, 0xF00F#16, formXYN op 0#4 0#4 sel⟩ w = true) :
    formXYN op (xField w) (yField w) sel = w :=
  formXYN_fields ((opField_of_accepts h (by decide)).trans (opField_formXYN ..))
    ((nField_of_accepts h (by decide)).trans (nField_formXYN ..))

theorem formXYN_of_accepts (h : OpcodeRow.accepts ⟨name, 0xF000#16, formXYN op 0#4 0#4 0#4⟩ w = true) :
    formXYN op (xField w) (yField w) (nField w) = w :=
  formXYN_fields ((opField_of_accepts h (by decide)).trans (opField_formXYN ..)) rfl

end AcceptedWord

/-- The row has only words of its own instruction. -/
def OpcodeRow.Sound (r : OpcodeRow) : Prop :=
  ∀ w : Word, r.accepts w = true → ∃ i, encode i = w ∧ Sys2Proof.mnemonic i = r.mnemonic

theorem opcodeRowsLow_sound : ∀ r ∈ opcodeRowsLow, r.Sound := by
  simp only [opcodeRowsLow, List.forall_mem_cons]
  exact ⟨fun _ h => ⟨.cls, eq_of_accepts_fixed h, rfl⟩,
    fun _ h => ⟨.ret, eq_of_accepts_fixed h, rfl⟩,
    fun _ h => ⟨.jp _, formA_of_accepts h, rfl⟩,
    fun _ h => ⟨.call _, formA_of_accepts h, rfl⟩,
    fun _ h => ⟨.seb _ _, formXK_of_accepts h, rfl⟩,
    fun _ h => ⟨.sneb _ _, formXK_of_accepts h, rfl⟩,
    fun _ h => ⟨.ser _ _, formXY_of_accepts h, rfl⟩,
    fun _ h => ⟨.ldb _ _, formXK_of_accepts h, rfl⟩,
    fun _ h => ⟨.addb _ _, formXK_of_accepts h, rfl⟩, List.forall_mem_nil _⟩

theorem opcodeRowsMid_sound : ∀ r ∈ opcodeRowsMid, r.Sound := by
  simp only [opcodeRowsMid, List.forall_mem_cons]
  exact ⟨fun _ h => ⟨.ldr _ _, formXY_of_accepts h, rfl⟩,
    fun _ h => ⟨.or _ _, formXY_of_accepts h, rfl⟩,
    fun _ h => ⟨.and _ _, formXY_of_accepts h, rfl⟩,
    fun _ h => ⟨.xor _ _, formXY_of_accepts h, rfl⟩,
    fun _ h => ⟨.addr _ _, formXY_of_accepts h, rfl⟩,
    fun _ h => ⟨.sub _ _, formXY_of_accepts h, rfl⟩,
    fun _ h => ⟨.shr _ _, formXY_of_accepts h, rfl⟩,
    fun _ h => ⟨.subn _ _, formXY_of_accepts h, rfl⟩,
    fun _ h => ⟨.shl _ _, formXY_of_accepts h, rfl⟩,
    fun _ h => ⟨.sner _ _, formXY_of_accepts h, rfl⟩,
    fun _ h => ⟨.lda _, formA_of_accepts h, rfl⟩,
    fun _ h => ⟨.jpv0 _, formA_of_accepts h, rfl⟩,
    fun _ h => ⟨.rnd _ _, formXK_of_accepts h, rfl⟩,
    fun _ h => ⟨.drw _ _ _, formXYN_of_accepts h, rfl⟩, List.forall_mem_nil _⟩

theorem opcodeRowsHigh_sound : ∀ r ∈ opcodeRowsHigh, r.Sound := by
  simp only [opcodeRowsHigh, List.forall_mem_cons]
  exact ⟨fun _ h => ⟨.skp _, formXF_of_accepts h, rfl⟩,
    fun _ h => ⟨.sknp _, formXF_of_accepts h, rfl⟩,
    fun _ h => ⟨.lddt _, formXF_of_accepts h, rfl⟩,
    fun _ h => ⟨.ldkp _, formXF_of_accepts h, rfl⟩,
    fun _ h => ⟨.stdt _, formXF_of_accepts h, rfl⟩,
    fun _ h => ⟨.stst _, formXF_of_accepts h, rfl⟩,
    fun _ h => ⟨.adda _, formXF_of_accepts h, rfl⟩,
    fun _ h => ⟨.ldf _, formXF_of_accepts h, rfl⟩,
    fun _ h => ⟨.bcd _, formXF_of_accepts h, rfl⟩,
    fun _ h => ⟨.strr _, formXF_of_accepts h, rfl⟩,
    fun _ h => ⟨.ldrr _, formXF_of_accepts h, rfl⟩, List.forall_mem_nil _⟩

theorem opcodeTable_sound {r : OpcodeRow} (hr : r ∈ opcodeTable) : r.Sound := by
  rw [opcodeTable, List.mem_append, List.mem_append] at hr
  obtain (hr | hr) | hr := hr
  · exact opcodeRowsLow_sound r hr
  · exact opcodeRowsMid_sound r hr
  · exact opcodeRowsHigh_sound r hr

/-- A word that a row accepts decodes to the row's instruction. -/
theorem decode_of_accepts {r : OpcodeRow} {w : Word} (hr : r ∈ opcodeTable) (h : r.accepts w = true) :
    ∃ i, decode w = .ok i ∧ mnemonic i = r.mnemonic := by
  obtain ⟨i, rfl, hi⟩ := opcodeTable_sound hr w h
  exact ⟨i, decode_encode i, hi⟩

/-- A word that decodes is accepted by a row, the one of its instruction. -/
theorem exists_accepts_of_decode {w : Word} {i : Instr} (h : decode w = .ok i) :
    ∃ r ∈ opcodeTable, r.mnemonic = mnemonic i ∧ r.accepts w = true := by
  rw [← encode_of_decode_ok h]
  exact Laws.TableRow.statement i

/-- A row accepts exactly the words that decode to its instruction (R63, R64). -/
theorem accepts_iff_decode {r : OpcodeRow} (hr : r ∈ opcodeTable) (w : Word) :
    r.accepts w = true ↔ ∃ i, decode w = .ok i ∧ mnemonic i = r.mnemonic := by
  refine ⟨decode_of_accepts hr, fun ⟨i, hd, hi⟩ => ?_⟩
  obtain ⟨q, hq, hqi, hacc⟩ := exists_accepts_of_decode hd
  rw [opcodeTable_eq_of_mnemonic_eq hr hq (hi.symm.trans hqi.symm)]
  exact hacc

/-- Settles O4: rows and instructions correspond by mnemonic (`accepts_iff_decode`), so what no row accepts does not
decode, and two rows that accept one word have the mnemonic of its one decoding. -/
theorem decoderAgreesWithOpcodeTable : Obligations.DecoderAgreesWithOpcodeTable := by
  refine ⟨fun w r hr => accepts_iff_decode hr w, fun w => ⟨fun ⟨e, he⟩ r hr => ?_, fun hnone => ?_⟩,
    fun w r hr r' hr' h h' => ?_⟩
  · refine Bool.eq_false_of_not_eq_true fun h => ?_
    obtain ⟨i, hi, -⟩ := decode_of_accepts hr h
    cases he.symm.trans hi
  · cases hd : decode w with
    | ok i =>
      obtain ⟨r, hr, -, h⟩ := exists_accepts_of_decode hd
      exact nomatch h.symm.trans (hnone r hr)
    | error e => exact ⟨e, rfl⟩
  · obtain ⟨i, hi, hm⟩ := decode_of_accepts hr h
    obtain ⟨i', hi', hm'⟩ := decode_of_accepts hr' h'
    cases hi.symm.trans hi'
    exact opcodeTable_eq_of_mnemonic_eq hr hr' (hm.symm.trans hm')

end Sys2Proof

/-! The cycle (40_cycle.md R80 to R88; 60_exceptions.md R163, R176 to R180): a step serves one input, always answers a
next state, and leaves a faulted machine as it is. -/
namespace Sys2Proof.Machine

/-! ### Every operation of the step answers a next state -/

/-- Every instruction answers a next state: the four that branch do so in each branch (40_cycle.md R88). -/
theorem exec_exists_next (i : Instr) (s : State) : ∃ t, exec i s = .next t := by
  cases i with
  | ret =>
    by_cases hc : s.settings.stackPolicy = .fault ∧ s.sp = 0
    · exact ⟨_, exec_ret_underflow hc⟩
    · exact ⟨_, exec_ret_pop hc⟩
  | call nnn =>
    by_cases hc : s.settings.stackPolicy = .fault ∧ s.sp = 16
    · exact ⟨_, exec_call_overflow nnn hc⟩
    · exact ⟨_, exec_call_push nnn hc⟩
  | adda x =>
    by_cases hc : (s.settings.addressOverflowQuirk && addressOverflow s.i (s.getV x)) = true
    · exact ⟨_, exec_adda_flag hc⟩
    · exact ⟨_, exec_adda_noFlag hc⟩
  | ldkp x =>
    rcases hp : s.pollWait with ⟨u, _ | k⟩
    · exact ⟨_, exec_ldkp_wait x hp⟩
    · exact ⟨_, exec_ldkp_key x hp⟩
  | _ => exact ⟨_, rfl⟩

theorem cpuStep_exists_next (l : KeyLevels) (s : State) : ∃ t, cpuStep l s = .next t := by
  rcases cpuStep_cases l s with ⟨-, e⟩ | ⟨i, -, -, e⟩ | ⟨err, -, -, e⟩ <;> rw [e]
  · exact ⟨_, rfl⟩
  · exact exec_exists_next i _
  · exact ⟨_, rfl⟩

theorem eventStep_exists_next (e : Event) (s : State) : ∃ t, eventStep e s = .next t := by
  cases e with
  | cpuStep l => exact cpuStep_exists_next l s
  | delayTick | soundTick | keyEvent | quit => exact ⟨_, rfl⟩

theorem checkCpu_exists_next (now : Rat) (l : KeyLevels) (s : State) : ∃ t, checkCpu now l s = .next t := by
  rcases checkCpu_cases now l s with ⟨-, hdue⟩ | ⟨-, e⟩
  · obtain ⟨t, ht⟩ := cpuStep_exists_next l (s.setClkCpu (s.clkCpu + period s.settings.cpuHz))
    exact ⟨_, hdue t ht⟩
  · exact ⟨_, e⟩

/-- An idle iteration is refused only under settings that no machine is constructed with (D19, log 20). -/
theorem pollStep_exists_next (p : Poll) {s : State} (h : s.settings.wellFormed = true) :
    ∃ t, pollStep p s = .next t := by
  cases p with
  | quit | keyPress => exact ⟨_, rfl⟩
  | idle now l =>
    simp only [pollStep, h, if_true]
    exact checkCpu_exists_next now l _

theorem step_exists_next {s : State} (h : s.settings.wellFormed = true) : ∃ t, step s = .next t := by
  rcases step_cases s with ⟨-, e⟩ | ⟨-, -, e⟩ | ⟨ev, rest, -, -, e⟩ | ⟨p, rest, -, -, e⟩ <;> rw [e]
  · exact ⟨_, rfl⟩
  · exact cpuStep_exists_next _ s
  · exact eventStep_exists_next ev _
  · exact pollStep_exists_next p h

/-- Settles O54, for the instructions and for the step: each input is served by an operation that answers. -/
theorem nothingIsStuck : Obligations.NothingIsStuck :=
  ⟨exec_exists_next, fun _ h => step_exists_next h⟩

/-! ### A step runs the decoded instruction -/

/-- A run that is not over has met no fatal condition (60_exceptions.md R163). -/
theorem State.faulted_of_not_over {s : State} (h : s.over = false) : s.faulted = false :=
  (Bool.or_eq_false_iff.mp h).1

/-- Taking inputs off leaves what the next fetch reads. -/
@[simp] theorem State.setInbox_fetchWord (s : State) (l : List Input) : (s.setInbox l).fetchWord = s.fetchWord := rfl

@[simp] theorem State.prepare_keys (s : State) (l : KeyLevels) : (s.prepare l).keys = l := rfl
@[simp] theorem State.prepare_pc (s : State) (l : KeyLevels) : (s.prepare l).pc = s.pc + 2 := rfl

/-- With no input waiting the decoded instruction runs with the key levels as held (log 4). -/
theorem step_idle_of_decode {s : State} {i : Instr} (h : s.over = false) (hd : decode s.fetchWord = .ok i)
    (hi : s.platform.inbox = []) : step s = exec i (s.prepare s.keys) :=
  (step_idle h hi).trans (cpuStep_of_decode s.keys (State.faulted_of_not_over h) hd)

/-- `CpuStep(levels)` as the oldest input runs the decoded instruction with those levels (60_exceptions.md R176). -/
theorem step_cpuStep_of_decode {s : State} {i : Instr} {l : KeyLevels} {rest : List Input} (h : s.over = false)
    (hd : decode s.fetchWord = .ok i) (hi : s.platform.inbox = .event (.cpuStep l) :: rest) :
    step s = exec i ((s.setInbox rest).prepare l) := by
  have hf : (s.setInbox rest).faulted = false := (s.setInbox_faulted rest).trans (State.faulted_of_not_over h)
  have hd' : decode (s.setInbox rest).fetchWord = .ok i := by rw [State.setInbox_fetchWord, hd]
  exact (step_event h hi).trans (cpuStep_of_decode l hf hd')

/-- Settles O6: the step by the kind of its input, then what `setInbox` and `prepare` change. -/
theorem stepRunsDecodedInstruction : Obligations.StepRunsDecodedInstruction :=
  ⟨fun _ _ h hd => ⟨step_idle_of_decode h hd, fun _ _ => step_cpuStep_of_decode h hd⟩,
    fun _ h => ⟨fun _ _ => step_event h, fun _ _ => step_poll h⟩,
    fun s rest => ⟨s.setInbox_platform rest, Frame.setInbox s rest⟩,
    fun s levels => ⟨s.prepare_keys levels, s.prepare_pc levels, Frame.prepare s levels⟩⟩

/-! ### A faulted machine is frozen -/

section Faulted
variable {s : State} (h : s.faulted = true)
include h

theorem State.over_of_faulted : s.over = true := Bool.or_eq_true_iff.mpr (.inl h)

theorem cpuStep_faulted (l : KeyLevels) : cpuStep l s = .next s := if_pos h

theorem State.delayTick_faulted : s.delayTick = s := if_pos h

theorem State.soundTick_faulted : s.soundTick = s := if_pos h

theorem State.keyEvent_faulted (k : Key) : s.keyEvent k = s := if_pos h

end Faulted

/-- Settles O12: a faulted run is over, and each of the four events tests for the fault first (decision D22). -/
theorem faultedMachineIsFrozen : Obligations.FaultedMachineIsFrozen :=
  fun _ h => ⟨step_over (State.over_of_faulted h), cpuStep_faulted h, congrArg _ (State.delayTick_faulted h),
    congrArg _ (State.soundTick_faulted h), fun k => congrArg _ (State.keyEvent_faulted h k)⟩

end Sys2Proof.Machine

/-! Control transfer (41_flow.md R90 to R98): what a jump, a skip, a push and a pop write, and why a RET undoes the CALL
before it. -/
namespace Sys2Proof

/-- A word in the list of R65 is Invalid, and the verdict carries it (30_encoding.md R64, R65). -/
theorem decode_of_listedInvalid {w : Word} (h : ListedInvalid w) : decode w = .error ⟨w⟩ := by
  obtain ⟨e, he⟩ := (invalidWordsAreThoseListed w).mpr h
  rw [he, eq_of_decode_error he]

end Sys2Proof

namespace Sys2Proof.Machine

/-! ### Jumps -/

/-- Zero extension keeps the number (30_encoding.md R62). -/
@[simp] theorem zext16_toNat (nnn : Addr12) : (zext16 nnn).toNat = nnn.toNat :=
  BitVec.toNat_setWidth_of_le (by decide)

/-- The target of JPV0 does not wrap: it is at most `0x10FE` (41_flow.md R98). -/
theorem zext16_add_toNat (nnn : Addr12) (b : Byte) :
    (zext16 nnn + b.setWidth 16).toNat = nnn.toNat + b.toNat := by
  have hn := nnn.isLt
  have hb := b.isLt
  rw [BitVec.toNat_add, zext16_toNat, BitVec.toNat_setWidth_of_le (by decide)]
  omega

/-- Settles O13: the jump is one write of `pc`. -/
theorem jumpSetsPc : Obligations.JumpSetsPc :=
  fun nnn s => ⟨decode_encode (.jp nnn), _, rfl, zext16_toNat nnn, Frame.setPc s _⟩

/-- Settles O14: the jump is one write of `pc`, and the sum fits in 16 bits. -/
theorem jumpPlusV0 : Obligations.JumpPlusV0 :=
  fun nnn s => ⟨_, rfl, zext16_add_toNat nnn (s.getV 0), Frame.setPc s _⟩

/-! ### Conditional skips -/

/-- A skip moves `pc` on by one instruction exactly when its condition holds (41_flow.md R90). -/
theorem State.skipIf_pc (s : State) (c : Bool) : (s.skipIf c).pc = if c then s.pc + 2 else s.pc := by
  cases c <;> rfl

/-- SEB and SER (R94, R96). -/
theorem State.skipIf_beq_pc (s : State) (a b : Byte) :
    (s.skipIf (a == b)).pc = if a = b then s.pc + 2 else s.pc := by
  simp only [State.skipIf_pc, beq_iff_eq]

/-- SNEB and SNER (R95, R97). -/
theorem State.skipIf_bne_pc (s : State) (a b : Byte) :
    (s.skipIf (a != b)).pc = if a = b then s.pc else s.pc + 2 := by
  simp only [State.skipIf_pc, bne_iff_ne, ne_eq, ite_not]

/-- Family `5` with another selector than 0 is in the list of R65. -/
theorem listedInvalid_family5 (x y : RegIdx) {n : BitVec 4} (h : n ≠ 0) : ListedInvalid (formXYN 0x5#4 x y n) :=
  .inr (.inl ⟨opField_formXYN .., by rwa [nField_formXYN]⟩)

/-- Family `9` with another selector than 0 is in the list of R65. -/
theorem listedInvalid_family9 (x y : RegIdx) {n : BitVec 4} (h : n ≠ 0) : ListedInvalid (formXYN 0x9#4 x y n) :=
  .inr (.inr (.inr (.inl ⟨opField_formXYN .., by rwa [nField_formXYN]⟩)))

/-- Settles O15: each of the four is a `skipIf` on its condition, and the words of the other selectors are listed. -/
theorem conditionalSkips : Obligations.ConditionalSkips :=
  ⟨fun x kk s => ⟨decode_encode (.seb x kk), _, rfl, s.skipIf_beq_pc _ _, Frame.skipIf s _⟩,
    fun x kk s => ⟨decode_encode (.sneb x kk), _, rfl, s.skipIf_bne_pc _ _, Frame.skipIf s _⟩,
    fun x y s => ⟨decode_encode (.ser x y), _, rfl, s.skipIf_beq_pc _ _, Frame.skipIf s _⟩,
    fun x y s => ⟨decode_encode (.sner x y), _, rfl, s.skipIf_bne_pc _ _, Frame.skipIf s _⟩,
    fun x y _ h => ⟨decode_of_listedInvalid (listedInvalid_family5 x y h),
      decode_of_listedInvalid (listedInvalid_family9 x y h)⟩⟩

/-! ### The call stack -/

/-- The guard under which CALL and RET do not fault, in the form in which they test it (60_exceptions.md R161, R162). -/
theorem not_fault_and_of_wrap_or_ne {p : StackPolicy} {sp k : Byte} (h : p = .wrap ∨ sp ≠ k) :
    ¬(p = .fault ∧ sp = k) := by
  rintro ⟨rfl, rfl⟩
  exact h.elim nofun fun hne => hne rfl

/-- A push writes the entry at `SP mod 16` and no other (41_flow.md R93, D8). -/
theorem State.pushPc_stack_getElem (s : State) {j : Nat} (h : j < 16) :
    s.pushPc.stack[j] = if j = s.sp.toNat % 16 then s.pc else s.stack[j] := by
  simp only [State.pushPc_stack, Vector.getElem_set, eq_comm]

/-- A pop takes the entry at the new `SP mod 16` (41_flow.md R91, D8). -/
theorem State.popPc_pc_eq (s : State) :
    s.popPc.pc = s.stack[s.popPc.sp.toNat % 16]'(Nat.mod_lt _ (by decide)) := rfl

/-- Settles O16: CALL is the push, then the jump. -/
theorem callPushesReturnAddress : Obligations.CallPushesReturnAddress := by
  intro nnn s h
  refine ⟨_, exec_call_push nnn (not_fault_and_of_wrap_or_ne h), zext16_toNat nnn, ?_,
    fun _ => s.pushPc_stack_getElem, (Frame.pushPc s).comp (Frame.setPc _ _) (by simp)⟩
  rw [State.setPc_sp, State.pushPc_sp]
  exact BitVec.toNat_add ..

/-- Settles O17: RET is the pop. -/
theorem returnPopsReturnAddress : Obligations.ReturnPopsReturnAddress := by
  intro s h
  refine ⟨_, exec_ret_pop (not_fault_and_of_wrap_or_ne h), ?_, s.popPc_pc_eq, Frame.popPc s⟩
  rw [State.popPc_sp, Nat.add_comm]
  exact BitVec.toNat_sub ..

/-! ### A return right after a call -/

/-- A part that a frame names but that came back to its value need not be named. -/
theorem Frame.drop {w w' : List Field} {s t : State} (h : Frame w s t) (hsame : ∀ f ∈ w, f ∉ w' → f.Same s t) :
    Frame w' s t := by
  intro f hf
  by_cases hw : f ∈ w
  · exact hsame f hw hf
  · exact h f hw

section CallThenReturn
variable (s : State) (w : Word)

/-- A pop takes `SP` back to what it was before a push and a jump (D8). -/
theorem State.popPc_setPc_pushPc_sp : (s.pushPc.setPc w).popPc.sp = s.sp :=
  BitVec.add_sub_cancel s.sp 1

/-- A pop takes `pc` from the entry that the push wrote (D8). -/
theorem State.popPc_setPc_pushPc_pc : (s.pushPc.setPc w).popPc.pc = s.pc := by
  simp only [State.popPc_pc_eq, State.popPc_setPc_pushPc_sp, State.setPc_stack]
  rw [State.pushPc_stack_getElem, if_pos rfl]

/-- A push, a jump and a pop leave everything but the stack array as it was (41_flow.md R91, R93). -/
theorem Frame.popPc_setPc_pushPc : Frame [.stack] s (s.pushPc.setPc w).popPc := by
  have hcall : Frame [.sp, .stack, .pc] s (s.pushPc.setPc w) := (Frame.pushPc s).comp (Frame.setPc _ w) (by simp)
  have hret : Frame [.sp, .stack, .pc] s (s.pushPc.setPc w).popPc := hcall.comp (Frame.popPc _) (by simp)
  refine hret.drop fun f hf hstack => ?_
  cases f with
  | sp => exact s.popPc_setPc_pushPc_sp w
  | pc => exact s.popPc_setPc_pushPc_pc w
  | _ => simp_all

end CallThenReturn

/-- After a push from a state that meets the stack bound, `SP` is 0 only under `STACK_POLICY = wrap`, so RET does not
underflow (10_state.md R14). -/
theorem State.StackOk.not_underflow_pushPc {s : State} (h : s.StackOk) :
    ¬(s.settings.stackPolicy = .fault ∧ s.pushPc.sp = 0) := by
  rintro ⟨hp, h0⟩
  have hle := h hp
  rw [State.pushPc_sp] at h0
  bv_omega

/-- Settles O19: the call pushes, the return does not underflow and pops what was pushed. -/
theorem callThenReturnComesBack : Obligations.CallThenReturnComesBack := by
  intro nnn s t hok h hcall
  cases (exec_call_push nnn (not_fault_and_of_wrap_or_ne h)).symm.trans hcall
  exact ⟨_, exec_ret_pop hok.not_underflow_pushPc, s.popPc_setPc_pushPc_pc _, s.popPc_setPc_pushPc_sp _,
    Frame.popPc_setPc_pushPc s _⟩

end Sys2Proof.Machine

/-! Registers and arithmetic (42_alu.md R100 to R115): the value a result has as a number, the flag beside it, and which
of the two remains in `VF`. -/
namespace Sys2Proof.Machine

/-! ### Loads, the immediate sum and bitwise logic -/

/-- Settles O20: the load is one write of `V[x]`. -/
theorem loadByteWritesRegister : Obligations.LoadByteWritesRegister :=
  fun x kk s => ⟨decode_encode (.ldb x kk), _, rfl, s.getV_setV_self x kk, exec_sameV (i := .ldb x kk) rfl,
    Frame.setV s x kk⟩

/-- Settles O21: the sum is one write of `V[x]`, and addition of bytes wraps mod 256. -/
theorem addByteWrapsWithoutFlag : Obligations.AddByteWrapsWithoutFlag := by
  intro x kk s
  refine ⟨decode_encode (.addb x kk), _, rfl, ?_, exec_sameV (i := .addb x kk) rfl, Frame.setV s x _⟩
  rw [State.getV_setV_self]
  exact BitVec.toNat_add ..

/-- Settles O22: the copy is one write of `V[x]`. -/
theorem loadRegisterCopies : Obligations.LoadRegisterCopies :=
  fun x y s => ⟨decode_encode (.ldr x y), _, rfl, s.getV_setV_self x _, exec_sameV (i := .ldr x y) rfl,
    Frame.setV s x _⟩

/-- Settles O23: each of the three is one write of `V[x]`, whose bits the library gives. -/
theorem bitwiseLogic : Obligations.BitwiseLogic := by
  intro x y s
  refine ⟨⟨_, rfl, fun k => ?_, exec_sameV (i := .or x y) rfl, Frame.setV s x _⟩,
    ⟨_, rfl, fun k => ?_, exec_sameV (i := .and x y) rfl, Frame.setV s x _⟩,
    ⟨_, rfl, fun k => ?_, exec_sameV (i := .xor x y) rfl, Frame.setV s x _⟩⟩ <;> rw [State.getV_setV_self]
  · exact BitVec.getLsbD_or
  · exact BitVec.getLsbD_and
  · exact BitVec.getLsbD_xor

/-! ### A result and a flag -/

/-- The flag is written last, so it is what `VF` holds, whatever register the result went to (R100, D9). -/
@[simp] theorem State.setResultFlag_getV_flag (s : State) (x : RegIdx) (b : Byte) (f : Bool) :
    (s.setResultFlag x b f).getV 15 = flagByte f :=
  State.getV_setV_self _ _ _

/-- The flag overwrites the result only in `VF` (R100, D9). -/
theorem State.setResultFlag_getV_result (s : State) {x : RegIdx} (h : x ≠ 15) (b : Byte) (f : Bool) :
    (s.setResultFlag x b f).getV x = b := by
  rw [State.setResultFlag, State.setVF_eq, State.getV_setV, if_neg h, State.getV_setV_self]

/-- The carry of ADDR as the byte `VF` receives (R107). -/
theorem flagByte_carryOut (a b : Byte) :
    flagByte (carryOut a b) = if a.toNat + b.toNat > 255 then 1 else 0 := by
  simp only [flagByte, carryOut, decide_eq_true_eq]

/-- The no-borrow of SUB and SUBN as the byte `VF` receives (R108, R110). -/
theorem flagByte_noBorrow (a b : Byte) : flagByte (noBorrow a b) = if a.toNat ≥ b.toNat then 1 else 0 := by
  simp only [flagByte, noBorrow, decide_eq_true_eq]

/-- Settles O24: the sum of bytes wraps mod 256, and the carry, written last, is what `VF` holds. -/
theorem addRegistersSetsCarry : Obligations.AddRegistersSetsCarry := by
  intro x y s
  refine ⟨_, rfl, fun hx => ?_, ?_, exec_sameV (i := .addr x y) rfl, Frame.setResultFlag s x _ _⟩
  · rw [State.setResultFlag_getV_result s hx]
    exact BitVec.toNat_add ..
  · exact (s.setResultFlag_getV_flag x _ _).trans (flagByte_carryOut ..)

/-- The difference of bytes, with the borrow added before the subtraction of numbers (R108, R110). -/
theorem byte_toNat_sub (a b : Byte) : (a - b).toNat = (a.toNat + 256 - b.toNat) % 256 := by
  have hb := b.isLt
  rw [BitVec.toNat_sub]
  omega

/-- Settles O25: SUBN is SUB with its operands exchanged, the result still going to `V[x]`. -/
theorem subtractSetsNoBorrow : Obligations.SubtractSetsNoBorrow := by
  intro x y s
  refine ⟨⟨_, rfl, fun hx => ?_, ?_, exec_sameV (i := .sub x y) rfl, Frame.setResultFlag s x _ _⟩,
    ⟨_, rfl, fun hx => ?_, ?_, exec_sameV (i := .subn x y) rfl, Frame.setResultFlag s x _ _⟩⟩
  case refine_1 | refine_3 =>
    rw [State.setResultFlag_getV_result s hx]
    exact byte_toNat_sub ..
  case refine_2 | refine_4 => exact (s.setResultFlag_getV_flag x _ _).trans (flagByte_noBorrow ..)

/-! ### Shifts -/

/-- The source of a shift as the number the quirk selects (R109, R111). -/
theorem State.shiftSource_toNat (s : State) (x y : RegIdx) :
    (s.shiftSource x y).toNat = if s.settings.shiftQuirk then (s.getV x).toNat else (s.getV y).toNat :=
  apply_ite BitVec.toNat ..

theorem flagByte_toNat (b : Bool) : (flagByte b).toNat = b.toNat := by
  cases b <;> rfl

/-- The bit SHR shifts out is the remainder by 2 (R109). -/
theorem flagByte_shiftedOutRight_toNat (b : Byte) : (flagByte (shiftedOutRight b)).toNat = b.toNat % 2 := by
  rw [flagByte_toNat]
  exact (Nat.toNat_testBit ..).trans (by simp)

/-- The bit SHL shifts out is the quotient by 128, at most 1 for a byte (R111). -/
theorem flagByte_shiftedOutLeft_toNat (b : Byte) : (flagByte (shiftedOutLeft b)).toNat = b.toNat / 128 := by
  have hb := b.isLt
  rw [flagByte_toNat]
  exact (Nat.toNat_testBit ..).trans (by omega)

theorem byte_ushiftRight_one_toNat (b : Byte) : (b >>> 1).toNat = b.toNat / 2 := by
  rw [BitVec.toNat_ushiftRight, Nat.shiftRight_one]

theorem byte_shiftLeft_one_toNat (b : Byte) : (b <<< 1).toNat = 2 * b.toNat % 256 := by
  rw [BitVec.toNat_shiftLeft, Nat.shiftLeft_eq, Nat.mul_comm]

/-- Settles O26: both shifts write a result and a flag computed from the one source. -/
theorem shiftsByOne : Obligations.ShiftsByOne := by
  intro x y s src hsrc
  rw [← State.shiftSource_toNat] at hsrc
  subst hsrc
  refine ⟨⟨_, rfl, fun hx => ?_, ?_, exec_sameV (i := .shr x y) rfl, Frame.setResultFlag s x _ _⟩,
    ⟨_, rfl, fun hx => ?_, ?_, exec_sameV (i := .shl x y) rfl, Frame.setResultFlag s x _ _⟩⟩
  · rw [State.setResultFlag_getV_result s hx]
    exact byte_ushiftRight_one_toNat _
  · rw [State.setResultFlag_getV_flag]
    exact flagByte_shiftedOutRight_toNat _
  · rw [State.setResultFlag_getV_result s hx]
    exact byte_shiftLeft_one_toNat _
  · rw [State.setResultFlag_getV_flag]
    exact flagByte_shiftedOutLeft_toNat _

/-! ### The generator -/

/-- The low byte of a number (R114). -/
theorem ofNat_mod_byte (n : Nat) : BitVec.ofNat 8 (n % 256) = BitVec.ofNat 8 n :=
  BitVec.eq_of_toNat_eq (by simp)

/-- Settles O27: the generator advances, then its low byte goes to `V[x]` under the mask. -/
theorem randomByteUnderMask : Obligations.RandomByteUnderMask := by
  intro x kk s
  refine ⟨_, rfl, rfl, ?_, exec_sameV (i := .rnd x kk) rfl, exec_frame (i := .rnd x kk) rfl⟩
  rw [State.getV_setV_self, State.rngNext_byte, State.setV_rng, State.rngNext_rng, ofNat_mod_byte]

/-- Settles O28: six steps of the generator, each a concrete number. -/
theorem generatorFirstStates : Obligations.GeneratorFirstStates := by
  unfold Obligations.GeneratorFirstStates
  decide

end Sys2Proof.Machine

/-! The address register and memory (43_index_memory.md R120 to R126): the number an address comes to, the flag of ADDA,
and what the block transfers put where. -/
namespace Sys2Proof.Machine

/-! ### Block transfers -/

theorem State.storeBlock_i (s : State) (k : Nat) : (s.storeBlock k).i = s.i :=
  Frame.storeBlock s k .i (by decide)

theorem State.storeBlock_settings (s : State) (k : Nat) : (s.storeBlock k).settings = s.settings :=
  Frame.storeBlock s k .settings (by decide)

theorem State.loadBlock_i (s : State) (k : Nat) : (s.loadBlock k).i = s.i :=
  Frame.loadBlock s k .i (by decide)

theorem State.loadBlock_settings (s : State) (k : Nat) : (s.loadBlock k).settings = s.settings :=
  Frame.loadBlock s k .settings (by decide)

/-- The increment under the quirk as a number: `I` wraps at 16 bits (R125, R126, D6, D11). -/
theorem State.bumpI_i_toNat (s : State) (x : RegIdx) :
    (s.bumpI x).i.toNat =
      if s.settings.loadStoreQuirk then (s.i.toNat + x.toNat + 1) % 65536 else s.i.toNat := by
  rw [State.bumpI_i, apply_ite BitVec.toNat, BitVec.toNat_add, BitVec.toNat_add,
    BitVec.toNat_setWidth_of_le (by decide), Nat.mod_add_mod]
  rfl

/-- Settles O33: each register stored is the last write at its address, since a block of at most 16 bytes does not come
round the 4096 bytes of memory. -/
theorem storeRegisterBlock : Obligations.StoreRegisterBlock := by
  intro x s
  refine ⟨_, rfl, fun r hr => ?_, exec_sameMemOutside (i := .strr x) rfl, ?_, exec_frame (i := .strr x) rfl⟩
  · have hx := x.isLt
    rw [State.bumpI_readByte, State.storeBlock_at s _ _ (by omega) (by omega), BitVec.ofNat_toNat, BitVec.setWidth_eq]
  · rw [State.bumpI_i_toNat, State.storeBlock_i, State.storeBlock_settings]

/-- Settles O34: the block load writes the registers up to `x`, and the increment writes none. -/
theorem loadRegisterBlock : Obligations.LoadRegisterBlock := by
  intro x s
  refine ⟨_, rfl, fun r => ?_, ?_, exec_frame (i := .ldrr x) rfl⟩
  · have hx := x.isLt
    simp only [State.bumpI_getV, State.loadBlock_getV s _ (show x.toNat + 1 ≤ 16 by omega), Nat.lt_succ_iff]
  · rw [State.bumpI_i_toNat, State.loadBlock_i, State.loadBlock_settings]

/-- Settles O35: with the quirk off `I` is the same at the load, which so reads the bytes the store wrote. -/
theorem storedBlockLoadsBack : Obligations.StoredBlockLoadsBack := by
  intro x s t u v hquirk hstore hload r hr
  obtain ⟨t', ht, hbytes, -, hi, -⟩ := storeRegisterBlock x s
  cases ht.symm.trans hstore
  obtain ⟨u', hu, hregs, -, -⟩ := loadRegisterBlock x { t with v := v }
  cases hu.symm.trans hload
  have hti : t.i.toNat = s.i.toNat := by simpa [hquirk] using hi
  calc u.getV r = t.readByte (t.i.toNat + r.toNat) := (hregs r).trans (if_pos hr)
    _ = s.getV r := by rw [hti, hbytes r hr]

/-! ### The address register -/

/-- Settles O29: the load is one write of `I`. -/
theorem loadAddressWritesI : Obligations.LoadAddressWritesI :=
  fun nnn s => ⟨decode_encode (.lda nnn), _, rfl, zext16_toNat nnn, Frame.setI s _⟩

/-- The sum of ADDA as a number: it wraps at 16 bits (R122, D6). -/
theorem word_add_byte_toNat (i : Word) (b : Byte) :
    (i + b.setWidth 16).toNat = (i.toNat + b.toNat) % 65536 := by
  rw [BitVec.toNat_add, BitVec.toNat_setWidth_of_le (by decide)]

/-- The condition under which ADDA writes `VF` (R122, D10). -/
theorem quirk_and_addressOverflow_iff {q : Bool} {i : Word} {b : Byte} :
    (q && addressOverflow i b) = true ↔ q = true ∧ i.toNat + b.toNat > 0xFFFF := by
  simp only [addressOverflow, Bool.and_eq_true, decide_eq_true_eq]

/-- Settles O30: `I` is written in any case, `VF` after it only when the quirk is on and the sum passes `0xFFFF`. -/
theorem addToAddressRegister : Obligations.AddToAddressRegister := by
  intro x s
  by_cases h : s.settings.addressOverflowQuirk = true ∧ s.i.toNat + (s.getV x).toNat > 0xFFFF
  · have hexec := exec_adda_flag (quirk_and_addressOverflow_iff.mpr h)
    refine ⟨_, hexec, word_add_byte_toNat .., ?_, exec_sameV hexec, exec_frame hexec⟩
    rw [if_pos h]
    exact State.getV_setV_self _ _ _
  · have hexec := exec_adda_noFlag (mt quirk_and_addressOverflow_iff.mp h)
    exact ⟨_, hexec, word_add_byte_toNat .., (if_neg h).symm, exec_sameV hexec, exec_frame hexec⟩

/-- The low nibble as a number (D14). -/
theorem lowNibble_toNat (b : Byte) : (lowNibble b).toNat = b.toNat % 16 :=
  BitVec.extractLsb'_toNat ..

/-- Settles O31: a font below the program has every glyph at an address that fits in `I`. -/
theorem loadGlyphAddress : Obligations.LoadGlyphAddress := by
  intro x s hfont
  refine ⟨_, rfl, ?_, Frame.setI s _⟩
  have hbase : s.settings.fontBase + 80 ≤ 0x200 := of_decide_eq_true hfont
  rw [State.setI_i, BitVec.toNat_ofNat, glyphAddress, lowNibble_toNat]
  omega

/-! ### Decimal digits -/

theorem bcdHundreds_toNat (b : Byte) : (bcdHundreds b).toNat = b.toNat / 100 := by
  have hb := b.isLt
  rw [bcdHundreds, BitVec.toNat_ofNat]
  omega

theorem bcdTens_toNat (b : Byte) : (bcdTens b).toNat = b.toNat / 10 % 10 := by
  rw [bcdTens, BitVec.toNat_ofNat]
  omega

theorem bcdOnes_toNat (b : Byte) : (bcdOnes b).toNat = b.toNat % 10 := by
  rw [bcdOnes, BitVec.toNat_ofNat]
  omega

theorem State.readByte_writeByte_self (s : State) (a : Nat) (b : Byte) : (s.writeByte a b).readByte a = b := by
  rw [State.readByte_writeByte, if_pos rfl]

theorem State.readByte_writeByte_of_ne (s : State) {a c : Nat} (b : Byte) (h : c % 4096 ≠ a % 4096) :
    (s.writeByte a b).readByte c = s.readByte c := by
  rw [State.readByte_writeByte, if_neg h]

/-- Settles O32: the three addresses differ mod 4096, so no digit is written over. -/
theorem storeDecimalDigits : Obligations.StoreDecimalDigits := by
  intro x s
  refine ⟨decode_encode (.bcd x), _, rfl, ?_, ?_, ?_, exec_sameMemOutside (i := .bcd x) rfl,
    exec_frame (i := .bcd x) rfl⟩ <;> simp only [State.indexed_eq, Nat.add_zero]
  · rw [State.readByte_writeByte_of_ne _ _ (by omega), State.readByte_writeByte_of_ne _ _ (by omega),
      State.readByte_writeByte_self, bcdHundreds_toNat]
  · rw [State.readByte_writeByte_of_ne _ _ (by omega), State.readByte_writeByte_self, bcdTens_toNat]
  · rw [State.readByte_writeByte_self, bcdOnes_toNat]

end Sys2Proof.Machine

/-! The display (44_display.md R130 to R135): the cells a piece of a sprite covers, what drawing it does to the grid,
the flag and the answer, and how the pieces make up a sprite. -/
namespace Sys2Proof.Machine

/-! ### Pixels and the flag -/

/-- A pixel is that of its reduced coordinates (R131). -/
theorem State.pixel_mod (s : State) (x y : Nat) : s.pixel (x % 64) (y % 32) = s.pixel x y := by
  simp only [State.pixel, Nat.mod_mod]

/-- A grid is known by the pixels of its 64 columns and 32 rows. -/
theorem State.fb_eq_of_pixel {s t : State} (h : ∀ X Y, X < 64 → Y < 32 → t.pixel X Y = s.pixel X Y) :
    t.fb = s.fb := by
  ext Y hY X hX
  simpa [State.pixel, Nat.mod_eq_of_lt hX, Nat.mod_eq_of_lt hY] using h X Y hX hY

@[simp] theorem State.displayClear_pixel (s : State) (X Y : Nat) : s.displayClear.pixel X Y = false := by
  simp [State.pixel]

theorem flagByte_eq_one_iff (b : Bool) : flagByte b = 1 ↔ b = true := by
  cases b <;> decide

/-! ### Drawing a set of cells -/

/-- What drawing, from `s`, the display cells that `covers` names answers: the state with exactly those cells toggled
and the display marked dirty if there is one, and whether one of them was lit (R131, R134, D23). -/
structure Drawn (s : State) (covers : Nat → Nat → Bool) (p : State × Bool) : Prop where
  pixel : ∀ X Y, X < 64 → Y < 32 → p.1.pixel X Y = (s.pixel X Y ^^ covers X Y)
  erased : p.2 = true ↔ ∃ X Y, X < 64 ∧ Y < 32 ∧ s.pixel X Y = true ∧ covers X Y = true
  dirty : p.1.dirty = true ↔ s.dirty = true ∨ ∃ X Y, X < 64 ∧ Y < 32 ∧ covers X Y = true

theorem Drawn.refl (s : State) {covers : Nat → Nat → Bool} (h : ∀ X Y, covers X Y = false) :
    Drawn s covers (s, false) := by
  constructor <;> simp [h]

/-- Two drawings on disjoint sets of cells are one drawing on the union: a cell of the second is as lit after the first
as it was before. -/
theorem Drawn.trans {s : State} {C D E : Nat → Nat → Bool} {p q : State × Bool} (hp : Drawn s C p)
    (hq : Drawn p.1 D q) (hdisj : ∀ X Y, C X Y = true → D X Y = false) (hE : ∀ X Y, E X Y = (C X Y || D X Y)) :
    Drawn s E (q.1, p.2 || q.2) := by
  have hkeep : ∀ X Y, X < 64 → Y < 32 → D X Y = true → p.1.pixel X Y = s.pixel X Y := by
    intro X Y hX hY hD
    have hC : C X Y = false := Bool.eq_false_iff.mpr fun hC => by simp [hdisj X Y hC] at hD
    rw [hp.pixel X Y hX hY, hC, Bool.xor_false]
  refine ⟨fun X Y hX hY => ?_, ?_, ?_⟩
  · rw [hq.pixel X Y hX hY, hp.pixel X Y hX hY, hE, Bool.xor_assoc]
    cases hC : C X Y
    · simp
    · simp [hdisj X Y hC]
  · rw [Bool.or_eq_true, hp.erased, hq.erased]
    constructor
    · rintro (⟨X, Y, hX, hY, hs, hC⟩ | ⟨X, Y, hX, hY, hs, hD⟩)
      · exact ⟨X, Y, hX, hY, hs, by simp [hE, hC]⟩
      · exact ⟨X, Y, hX, hY, hkeep X Y hX hY hD ▸ hs, by simp [hE, hD]⟩
    · rintro ⟨X, Y, hX, hY, hs, hCD⟩
      rcases Bool.or_eq_true_iff.mp (hE X Y ▸ hCD) with hC | hD
      · exact .inl ⟨X, Y, hX, hY, hs, hC⟩
      · exact .inr ⟨X, Y, hX, hY, (hkeep X Y hX hY hD).trans hs, hD⟩
  · simp only [hq.dirty, hp.dirty, hE, Bool.or_eq_true, and_or_left, exists_or, or_assoc]

/-! ### The cells a pixel, a row and a sprite cover -/

/-- Whether `set_pixel(x, y, value)` toggles the display cell `(X, Y)` (R131). -/
def pixelCovers (x y : Nat) (value : Bool) (X Y : Nat) : Bool := y % 32 == Y && (x % 64 == X && value)

/-- Whether the first `k` pixels of a sprite row drawn from column `x0` on display row `yy` cover the display cell
`(X, Y)` (R134). -/
def rowCovers (x0 yy : Nat) (row : Byte) (k X Y : Nat) : Bool :=
  yy % 32 == Y && (List.range k).any fun c => (x0 + c) % 64 == X && spritePixel row c

theorem pixelCovers_iff {x y : Nat} {value : Bool} {X Y : Nat} :
    pixelCovers x y value X Y = true ↔ y % 32 = Y ∧ x % 64 = X ∧ value = true := by
  simp [pixelCovers]

theorem rowCovers_iff {x0 yy : Nat} {row : Byte} {k X Y : Nat} :
    rowCovers x0 yy row k X Y = true ↔
      yy % 32 = Y ∧ ∃ c, c < k ∧ (x0 + c) % 64 = X ∧ spritePixel row c = true := by
  simp [rowCovers]

theorem rowCovers_succ (x0 yy : Nat) (row : Byte) (k X Y : Nat) :
    rowCovers x0 yy row (k + 1) X Y =
      (rowCovers x0 yy row k X Y || pixelCovers (x0 + k) yy (spritePixel row k) X Y) := by
  simp [rowCovers, pixelCovers, List.range_succ, Bool.and_or_distrib_left]

theorem State.spriteCovers_succ (s : State) (x0 y0 k X Y : Nat) :
    s.spriteCovers x0 y0 (k + 1) X Y = (s.spriteCovers x0 y0 k X Y ||
      !s.rowSkipped y0 k && rowCovers x0 (y0 + k) (s.readByte (s.indexed k)) 8 X Y) := by
  simp [State.spriteCovers, State.rowSkipped_eq, rowCovers, spritePixel, List.range_succ, Bool.and_assoc]

/-- The pixels of a row fall in distinct columns, since a row is narrower than the display. -/
theorem pixelCovers_eq_false_of_rowCovers {x0 yy : Nat} {row : Byte} {k X Y : Nat} (hk : k < 64) (value : Bool)
    (h : rowCovers x0 yy row k X Y = true) : pixelCovers (x0 + k) yy value X Y = false := by
  obtain ⟨-, c, hc, hX, -⟩ := rowCovers_iff.mp h
  rw [Bool.eq_false_iff, Ne, pixelCovers_iff]
  omega

/-- The rows of a sprite fall in distinct display rows, since a sprite is lower than the display. -/
theorem rowCovers_eq_false_of_spriteCovers {s : State} {x0 y0 k X Y : Nat} (hk : k < 32) (row : Byte)
    (h : s.spriteCovers x0 y0 k X Y = true) : rowCovers x0 (y0 + k) row 8 X Y = false := by
  obtain ⟨r, -, hr, -, -, hY, -⟩ := (s.spriteCovers_iff x0 y0 k X Y).mp h
  rw [Bool.eq_false_iff, Ne, rowCovers_iff]
  omega

/-- What a sprite covers depends on `I`, the memory and the settings only. -/
theorem Frame.spriteCovers {w : List Field} {s t : State} (h : Frame w s t) (hi : .i ∉ w) (hm : .mem ∉ w)
    (hs : .settings ∉ w) : t.spriteCovers = s.spriteCovers := by
  have hi : t.i = s.i := h .i hi
  have hm : ∀ a, t.readByte a = s.readByte a := h .mem hm
  have hs : t.settings = s.settings := h .settings hs
  funext x0 y0 n X Y
  simp only [State.spriteCovers, hi, hm, hs]

/-! ### A pixel, a row, a sprite and the instruction -/

theorem State.setPixel_drawn (s : State) (x y : Nat) (value : Bool) :
    Drawn s (pixelCovers x y value) (s.setPixel x y value) := by
  have hx : x % 64 < 64 := Nat.mod_lt _ (by decide)
  have hy : y % 32 < 32 := Nat.mod_lt _ (by decide)
  refine ⟨fun X Y hX hY => ?_, ?_, ?_⟩
  · rw [State.pixel_setPixel, Nat.mod_eq_of_lt hX, Nat.mod_eq_of_lt hY]
    congr 1
    rw [Bool.eq_iff_iff, pixelCovers_iff, Bool.and_eq_true, decide_eq_true_eq]
    tauto
  · rw [State.setPixel_erased, Bool.and_eq_true]
    constructor
    · rintro ⟨hs, hv⟩
      exact ⟨_, _, hx, hy, (s.pixel_mod x y).trans hs, pixelCovers_iff.mpr ⟨rfl, rfl, hv⟩⟩
    · rintro ⟨X, Y, -, -, hs, hcov⟩
      obtain ⟨rfl, rfl, hv⟩ := pixelCovers_iff.mp hcov
      exact ⟨(s.pixel_mod x y).symm.trans hs, hv⟩
  · rw [State.setPixel_dirty, Bool.or_eq_true]
    refine or_congr_right ⟨fun hv => ⟨_, _, hx, hy, pixelCovers_iff.mpr ⟨rfl, rfl, hv⟩⟩, ?_⟩
    rintro ⟨X, Y, -, -, hcov⟩
    obtain ⟨-, -, hv⟩ := pixelCovers_iff.mp hcov
    exact hv

theorem State.drawRow_drawn (s : State) (x0 yy : Nat) (row : Byte) {k : Nat} (hk : k ≤ 8) :
    Drawn s (rowCovers x0 yy row k) (s.drawRow x0 yy row k) := by
  induction k with
  | zero => exact Drawn.refl s fun X Y => by simp [rowCovers]
  | succ k ih =>
    exact (ih (by omega)).trans (State.setPixel_drawn _ _ _ _)
      (fun X Y => pixelCovers_eq_false_of_rowCovers (by omega) _) (rowCovers_succ x0 yy row k)

theorem State.drawSprite_drawn (s : State) (x0 y0 : Nat) {k : Nat} (hk : k ≤ 16) :
    Drawn s (s.spriteCovers x0 y0 k) (s.drawSprite x0 y0 k) := by
  induction k with
  | zero => exact Drawn.refl s fun X Y => by simp [State.spriteCovers]
  | succ k ih =>
    have ih := ih (by omega)
    have hcovers := s.spriteCovers_succ x0 y0 k
    cases hskip : s.rowSkipped y0 k
    · have hdraw : s.drawSprite x0 y0 (k + 1) = _ := if_neg (by simp [hskip])
      rw [hdraw]
      refine ih.trans (State.drawRow_drawn _ _ _ _ le_rfl) (fun X Y => rowCovers_eq_false_of_spriteCovers (by omega) _)
        fun X Y => ?_
      simpa [hskip] using hcovers X Y
    · have hdraw : s.drawSprite x0 y0 (k + 1) = _ := if_pos hskip
      have hsame : s.spriteCovers x0 y0 (k + 1) = s.spriteCovers x0 y0 k := by
        funext X Y
        simp [hcovers, hskip]
      rw [hdraw, hsame]
      exact ih

/-- DRW draws its sprite and then writes the answer to `VF` (R134, D13). -/
theorem exec_drw_drawn (x y : RegIdx) (n : BitVec 4) (s : State) :
    ∃ p, exec (.drw x y n) s = .next (p.1.setV 15 (flagByte p.2)) ∧
      Drawn s (s.spriteCovers (s.getV x).toNat (s.getV y).toNat n.toNat) p :=
  ⟨_, rfl, State.drawSprite_drawn s _ _ n.isLt.le⟩

/-! ### The three statements -/

/-- Settles O36: the grid is a new one with every pixel out. -/
theorem clearDisplay : Obligations.ClearDisplay :=
  ⟨decode_encode .cls, fun s => ⟨_, rfl, s.displayClear_pixel, rfl, Frame.displayClear s⟩⟩

/-- Settles O37: the sprite is drawn cell by cell, no cell twice, and the answer, written last, is what `VF` holds. -/
theorem drawXorsSprite : Obligations.DrawXorsSprite := by
  intro x y n s covers hcovers
  obtain ⟨p, hexec, hdrawn⟩ := exec_drw_drawn x y n s
  have hiff : ∀ X Y, covers X Y ↔ s.spriteCovers (s.getV x).toNat (s.getV y).toNat n.toNat X Y = true :=
    fun X Y => (hcovers X Y).trans (s.spriteCovers_iff _ _ _ X Y).symm
  simp only [hiff]
  refine ⟨_, hexec, fun X Y hX hY => ?_, fun hlit => ?_, fun hlit => ?_, hdrawn.dirty, exec_sameV hexec,
    exec_frame hexec⟩
  · rw [State.setV_pixel, hdrawn.pixel X Y hX hY]
    constructor <;> intro h <;> simp [h]
  · rw [State.getV_setV_self, hdrawn.erased.mpr hlit]
    rfl
  · rw [State.getV_setV_self, Bool.eq_false_iff.mpr (mt hdrawn.erased.mp hlit)]
    rfl

/-- Settles O38: the second drawing covers the cells of the first, so it toggles each of them back, and a covered cell
is lit before exactly one of the two. -/
theorem drawTwiceRestores : Obligations.DrawTwiceRestores := by
  intro x y n s t hexec hx hy
  obtain ⟨p, hp, hfirst⟩ := exec_drw_drawn x y n s
  obtain ⟨q, hq, hsecond⟩ := exec_drw_drawn x y n t
  rw [hx, hy, (exec_frame hexec).spriteCovers (by simp [writes]) (by simp [writes]) (by simp [writes])] at hsecond
  cases hp.symm.trans hexec
  refine ⟨_, hq, State.fb_eq_of_pixel fun X Y hX hY => ?_, ?_, ?_⟩
  · rw [State.setV_pixel, hsecond.pixel X Y hX hY, State.setV_pixel, hfirst.pixel X Y hX hY, Bool.xor_assoc,
      Bool.xor_self, Bool.xor_false]
  · rw [State.getV_setV_self, flagByte_eq_one_iff, hsecond.erased]
    refine exists₂_congr fun X Y => and_congr_right fun hX => and_congr_right fun hY => ?_
    rw [State.setV_pixel, hfirst.pixel X Y hX hY]
    cases s.pixel X Y <;> simp
  · rintro ⟨X, Y, hX, hY, hcov⟩
    simp only [State.getV_setV_self, flagByte_eq_one_iff, hfirst.erased, hsecond.erased]
    cases hs : s.pixel X Y
    · refine .inr ⟨X, Y, hX, hY, ?_, hcov⟩
      rw [State.setV_pixel, hfirst.pixel X Y hX hY, hs, hcov]
      rfl
    · exact .inl ⟨X, Y, hX, hY, hs, hcov⟩

end Sys2Proof.Machine

/-! Keyboard and timer instructions (45_keyboard_timers.md R140 to R149): what LDKP does by the state of the latch, the
steps of a wait, and why only a key press ends it. -/
namespace Sys2Proof.Machine

/-! ### Skips on a key level and moves of the timers -/

/-- SKNP (R145). -/
theorem State.skipIf_not_pc (s : State) (c : Bool) : (s.skipIf (!c)).pc = if c then s.pc else s.pc + 2 := by
  cases c <;> rfl

/-- Settles O39: both skips are a `skipIf` on the level of the key that the low nibble names. -/
theorem skipOnKeyLevel : Obligations.SkipOnKeyLevel := by
  intro x s k hk
  have hkey : k = lowNibble (s.getV x) := BitVec.eq_of_toNat_eq (by rw [hk, lowNibble_toNat])
  subst hkey
  exact ⟨⟨_, rfl, s.skipIf_pc _, Frame.skipIf s _⟩, _, rfl, s.skipIf_not_pc _, Frame.skipIf s _⟩

/-- Settles O43: each of the three moves is one write. -/
theorem timerRegisterMoves : Obligations.TimerRegisterMoves :=
  fun x s =>
    ⟨⟨decode_encode (.lddt x), _, rfl, s.getV_setV_self x _, exec_sameV (i := .lddt x) rfl, Frame.setV s x _⟩,
      ⟨decode_encode (.stdt x), _, rfl, rfl, Frame.setDT s _⟩,
      ⟨decode_encode (.stst x), _, rfl, rfl, Frame.setST s _⟩⟩

/-! ### The latch and LDKP -/

/-- A key number keeps its value as a byte (R146). -/
theorem keyByte_toNat (k : Key) : (keyByte k).toNat = k.toNat :=
  BitVec.toNat_setWidth_of_le (by decide)

/-- Going back over the advance of the cycle (40_cycle.md R82). -/
theorem State.prepare_rewind_pc (s : State) (l : KeyLevels) : (s.prepare l).rewind.pc = s.pc :=
  BitVec.add_sub_cancel s.pc 2

/-- Without a press in an armed latch LDKP goes back, and leaves the latch armed and empty whether or not it was armed
before (R143). -/
theorem exec_ldkp_noPress {s : State} (x : RegIdx) (h : s.waiting = true → s.pending = none) :
    exec (.ldkp x) s = .next (s.setLatch true none).rewind := by
  apply exec_ldkp_wait
  rcases s.pollWait_cases with ⟨-, e⟩ | ⟨k, hw, hp, -⟩ | ⟨hw, hp, e⟩
  · exact e
  · cases (h hw).symm.trans hp
  · rw [e, ← hw, ← hp]
    rfl

/-- With a press in an armed latch LDKP takes it and disarms the latch (R143). -/
theorem exec_ldkp_press {s : State} {k : Key} (x : RegIdx) (hw : s.waiting = true) (hp : s.pending = some k) :
    exec (.ldkp x) s = .next ((s.setLatch false none).setV x (keyByte k)) :=
  exec_ldkp_key x (by simp [State.pollWait, hw, hp])

theorem Frame.setLatch_rewind (s : State) (w : Bool) (p : Option Key) :
    Frame [.pc, .waiting, .pending] s (s.setLatch w p).rewind :=
  (Frame.setLatch s w p).comp (Frame.setPc _ _) (by simp)

/-- One part that a frame names but that came back to its value need not be named. -/
theorem Frame.drop_one {w w' : List Field} {s t : State} (h : Frame w s t) (f : Field) (hsame : f.Same s t)
    (hw : ∀ g ∈ w, g = f ∨ g ∈ w') : Frame w' s t :=
  h.drop fun g hg hne => (hw g hg).resolve_right hne ▸ hsame

/-- Settles O40: the latch without a press, armed or not, and the latch with one. -/
theorem keyWaitArmsWaitsConsumes : Obligations.KeyWaitArmsWaitsConsumes := by
  intro x s
  refine ⟨fun hw => ?_, fun hw hp => ?_, fun k hw hp => ?_⟩
  · exact ⟨_, exec_ldkp_noPress x (by simp [hw]), rfl, rfl, rfl, Frame.setLatch_rewind s _ _⟩
  · have hpc : Frame [.pc, .pending] s (s.setLatch true none).rewind :=
      (Frame.setLatch_rewind s _ _).drop_one .waiting hw.symm (by simp)
    exact ⟨_, exec_ldkp_noPress x fun _ => hp, rfl, hpc.drop_one .pending hp.symm (by simp)⟩
  · have hexec := exec_ldkp_press x hw hp
    refine ⟨_, hexec, ?_, rfl, rfl, exec_sameV hexec, (Frame.setLatch s _ _).comp (Frame.setV _ _ _) (by simp)⟩
    rw [State.getV_setV_self, keyByte_toNat]

/-- A key press is latched while the latch is armed and empty (R142). -/
theorem State.keyEvent_of_armed {s : State} (k : Key) (hf : s.faulted = false) (hw : s.waiting = true)
    (hp : s.pending = none) : s.keyEvent k = s.setLatch true (some k) := by
  simp [State.keyEvent, State.pushEvent, hf, hw, hp]

/-! ### What the next step of a wait finds -/

/-- Equal `pc` and equal memory give the same fetch (40_cycle.md R81). -/
theorem Frame.fetchWord {w : List Field} {s t : State} (h : Frame w s t) (hpc : .pc ∉ w) (hm : .mem ∉ w) :
    t.fetchWord = s.fetchWord := by
  have hpc' : t.pc = s.pc := h .pc hpc
  have hm' : ∀ a, t.readByte a = s.readByte a := h .mem hm
  simp only [State.fetchWord, State.readWord, hpc', hm']

/-- A run goes on as before when neither the fault record nor the quit flag changed (R163, R178). -/
theorem Frame.over {w : List Field} {s t : State} (h : Frame w s t) (hf : .fault ∉ w)
    (hq : t.platform.quit = s.platform.quit) : t.over = s.over := by
  have hf' : t.fault = s.fault := h .fault hf
  simp only [State.over, State.faulted, hf', hq]

/-! ### The steps of a wait -/

theorem Frame.setInbox_prepare (s : State) (rest : List Input) (l : KeyLevels) :
    Frame [.pc, .keys, .platform] s ((s.setInbox rest).prepare l) :=
  (Frame.setInbox s rest).comp (Frame.prepare _ l) (by simp)

section WaitStep
variable {s : State} {x : RegIdx} {l : KeyLevels} {rest : List Input} (ho : s.over = false)
  (hd : decode s.fetchWord = .ok (.ldkp x)) (hi : s.platform.inbox = .event (.cpuStep l) :: rest)
include ho hd hi

/-- A CPU step at LDKP without a press repeats it: `pc` is as before and the latch armed and empty (R146). -/
theorem step_ldkp_noPress (h : s.waiting = true → s.pending = none) :
    ∃ t, step s = .next t ∧ t.waiting = true ∧ t.pending = none ∧
      t.platform = ⟨rest, s.platform.quit, s.platform.calls⟩ ∧ Frame [.keys, .waiting, .pending, .platform] s t := by
  have hexec : exec (.ldkp x) ((s.setInbox rest).prepare l) = _ := exec_ldkp_noPress x h
  have hframe : Frame [.pc, .keys, .waiting, .pending, .platform] s _ :=
    (Frame.setInbox_prepare s rest l).comp (Frame.setLatch_rewind _ true none) (by simp)
  exact ⟨_, (step_cpuStep_of_decode ho hd hi).trans hexec, rfl, rfl, rfl,
    hframe.drop_one .pc ((s.setInbox rest).prepare_rewind_pc l) (by simp)⟩

/-- A CPU step at LDKP with a press takes the key to `V[x]`, disarms the latch and goes on to the next instruction
(R146). -/
theorem step_ldkp_press {k : Key} (hw : s.waiting = true) (hp : s.pending = some k) :
    ∃ t, step s = .next t ∧ (t.getV x).toNat = k.toNat ∧ t.pc = s.pc + 2 ∧ t.waiting = false ∧ t.pending = none ∧
      t.platform = ⟨rest, s.platform.quit, s.platform.calls⟩ ∧ SameV [x] s t ∧
      Frame [.v, .pc, .keys, .waiting, .pending, .platform] s t := by
  have hexec : exec (.ldkp x) ((s.setInbox rest).prepare l) = _ := exec_ldkp_press x hw hp
  have hprep := Frame.setInbox_prepare s rest l
  refine ⟨_, (step_cpuStep_of_decode ho hd hi).trans hexec, ?_, rfl, rfl, rfl, rfl,
    (hprep.sameV (by decide)).trans (exec_sameV hexec), hprep.comp (exec_frame hexec) (by simp [writes])⟩
  rw [State.getV_setV_self, keyByte_toNat]

end WaitStep

/-- A key press as the oldest input of a wait is latched, and nothing else changes (R142). -/
theorem step_keyEvent_of_armed {s : State} {k : Key} {rest : List Input} (ho : s.over = false)
    (hi : s.platform.inbox = .event (.keyEvent k) :: rest) (hw : s.waiting = true) (hp : s.pending = none) :
    ∃ t, step s = .next t ∧ t.waiting = true ∧ t.pending = some k ∧
      t.platform = ⟨rest, s.platform.quit, s.platform.calls⟩ ∧ Frame [.pending, .platform] s t := by
  have hlatch := State.keyEvent_of_armed (s := s.setInbox rest) k (State.faulted_of_not_over ho) hw hp
  refine ⟨_, step_event ho hi, ?_, ?_, ?_, (Frame.setInbox s rest).comp (Frame.keyEvent _ k) (by simp)⟩ <;>
    rw [hlatch] <;> rfl

/-! ### Waits of several steps -/

/-- Settles O42, by induction on the CPU steps: each leaves LDKP at `pc` and nothing pending. -/
theorem heldKeysNeverEndTheWait : Obligations.HeldKeysNeverEndTheWait := by
  intro x levels
  induction levels with
  | nil =>
    intro s _ hp _ hi
    refine ⟨s, rfl, hp, ?_, Frame.refl s _⟩
    rw [← show s.platform.inbox = [] from hi]
  | cons l ls ih =>
    intro s ho hp hd hi
    obtain ⟨t, hstep, -, htp, hplat, hall⟩ := step_ldkp_noPress ho hd hi fun _ => hp
    have hframe : Frame [.keys, .waiting, .platform] s t :=
      hall.drop_one .pending (htp.trans hp.symm) (by simp)
    have hto : t.over = false := (hframe.over (by decide) (by rw [hplat])).trans ho
    have htd : decode t.fetchWord = .ok (.ldkp x) := (hframe.fetchWord (by decide) (by decide)).symm ▸ hd
    obtain ⟨u, hrun, hup, huplat, huframe⟩ := ih t hto htp htd (by rw [hplat])
    refine ⟨u, (core_run_succ _ hstep).trans hrun, hup, ?_, hframe.trans huframe⟩
    rw [huplat, hplat]

/-- Settles O41: the first step arms the latch, the key press is latched, and the second CPU step finds LDKP still at
`pc` and takes the key. -/
theorem keyPressEndsTheWait : Obligations.KeyPressEndsTheWait := by
  intro x s l l' k ho hw hd hi
  obtain ⟨t, harm, htw, htp, htplat, htframe⟩ := step_ldkp_noPress ho hd hi (by simp [hw])
  have hto : t.over = false := (htframe.over (by decide) (by rw [htplat])).trans ho
  obtain ⟨u, hpress, huw, hup, huplat, huframe⟩ := step_keyEvent_of_armed hto (by rw [htplat]) htw htp
  have hsu : Frame [.keys, .waiting, .pending, .platform] s u := htframe.comp huframe (by simp)
  have huo : u.over = false := (huframe.over (by decide) (by rw [huplat])).trans hto
  have hud : decode u.fetchWord = .ok (.ldkp x) := (hsu.fetchWord (by decide) (by decide)).symm ▸ hd
  obtain ⟨v, htake, hvk, hvpc, hvw, hvp, hvplat, hvv, hvframe⟩ := step_ldkp_press huo hud (by rw [huplat]) huw hup
  have hrun : Sys2Proof.core.run 3 s = .next v :=
    (core_run_succ 2 harm).trans ((core_run_succ 1 hpress).trans (core_run_succ 0 htake))
  have hpc : u.pc = s.pc := hsu .pc (by decide)
  have hsv : Frame [.v, .pc, .keys, .waiting, .pending, .platform] s v := hsu.comp hvframe (by simp)
  exact ⟨v, hrun, hvk, by rw [hvpc, hpc], hvw, hvp, by rw [hvplat, huplat, htplat],
    (hsu.sameV (by decide)).trans hvv, hsv.drop_one .waiting (hvw.trans hw.symm) (by simp)⟩

end Sys2Proof.Machine

/-! Fatal conditions, timer events, clocks and the host loop (60_exceptions.md R160 to R181): where a CPU step faults and
what it then leaves, what each event writes, and what one iteration of the host loop does. -/
namespace Sys2Proof.Machine

/-! ### The fatal conditions -/

/-- The three fatal conditions of the next CPU step, each where its rule meets it (R160 to R162; decision D7). -/
def State.MeetsFatal (s : State) : Prop :=
  (∃ e, decode s.fetchWord = .error e) ∨
  (s.settings.stackPolicy = .fault ∧ s.sp = 16 ∧ ∃ nnn, decode s.fetchWord = .ok (.call nnn)) ∨
  (s.settings.stackPolicy = .fault ∧ s.sp = 0 ∧ decode s.fetchWord = .ok .ret)

theorem State.faulted_of_fault {s : State} {r : FaultRecord} (h : s.fault = some r) : s.faulted = true := by
  rw [State.faulted, h]
  rfl

/-- An equal fault record tells as much of the run (R18). -/
theorem State.faulted_congr {s t : State} (h : t.fault = s.fault) : t.faulted = s.faulted := by
  rw [State.faulted, h]
  rfl

theorem Frame.faulted {w : List Field} {s t : State} (h : Frame w s t) (hw : .fault ∉ w) : t.faulted = s.faulted :=
  State.faulted_congr (h .fault hw)

/-- The record of a fault raised after the advance names the `pc` of the fetch (R163, log 9). -/
theorem State.raise_prepare_fault (s : State) (l : KeyLevels) (k : FaultKind) (w : Word) :
    ((s.prepare l).raise k w).fault = some ⟨k, s.pc, w⟩ :=
  congrArg (fun a => some (FaultRecord.mk k a w)) (s.prepare_rewind_pc l)

/-- A CPU step on an Invalid word raises `InvalidOpcode` with the word fetched (R160). -/
theorem cpuStep_of_decode_error {s : State} {e : Invalid} (l : KeyLevels) (hf : s.faulted = false)
    (hd : decode s.fetchWord = .error e) :
    cpuStep l s = .next ((s.prepare l).raise .invalidOpcode s.fetchWord) := by
  cases eq_of_decode_error hd
  simp [cpuStep, hf, hd]

/-- Where a fatal condition is met, a CPU step raises one with the word fetched and does nothing else (R163). -/
theorem cpuStep_of_meetsFatal {s : State} (l : KeyLevels) (hf : s.faulted = false) (h : s.MeetsFatal) :
    ∃ k, cpuStep l s = .next ((s.prepare l).raise k s.fetchWord) := by
  rcases h with ⟨e, hd⟩ | ⟨hp, hsp, nnn, hd⟩ | ⟨hp, hsp, hd⟩
  · exact ⟨_, cpuStep_of_decode_error l hf hd⟩
  · rw [cpuStep_of_decode l hf hd, ← encode_of_decode_ok hd]
    exact ⟨_, exec_call_overflow nnn ⟨hp, hsp⟩⟩
  · rw [cpuStep_of_decode l hf hd, ← encode_of_decode_ok hd]
    exact ⟨_, exec_ret_underflow ⟨hp, hsp⟩⟩

/-- Only CALL and RET write the fault record, and only where they meet their condition (R161, R162). -/
theorem exec_fault_eq {i : Instr} {s t : State} (h : exec i s = .next t)
    (hcall : ∀ nnn, i = .call nnn → ¬(s.settings.stackPolicy = .fault ∧ s.sp = 16))
    (hret : i = .ret → ¬(s.settings.stackPolicy = .fault ∧ s.sp = 0)) : t.fault = s.fault := by
  cases i with
  | call nnn => cases (exec_call_push nnn (hcall nnn rfl)).symm.trans h; rfl
  | ret => cases (exec_ret_pop (hret rfl)).symm.trans h; rfl
  | _ => exact exec_frame h .fault (by simp [writes])

/-- Where no fatal condition is met, a CPU step leaves the fault record as it is (R165). -/
theorem cpuStep_fault_eq {s t : State} {l : KeyLevels} (h : cpuStep l s = .next t) (hno : ¬s.MeetsFatal) :
    t.fault = s.fault := by
  rcases cpuStep_cases l s with ⟨-, e⟩ | ⟨i, -, hd, e⟩ | ⟨err, -, hd, -⟩
  · cases e.symm.trans h; rfl
  · have hexec : exec i (s.prepare l) = .next t := e.symm.trans h
    have hkeep : t.fault = (s.prepare l).fault :=
      exec_fault_eq hexec (fun nnn hi ⟨hp, hsp⟩ => hno (.inr (.inl ⟨hp, hsp, nnn, hi ▸ hd⟩)))
        fun hi ⟨hp, hsp⟩ => hno (.inr (.inr ⟨hp, hsp, hi ▸ hd⟩))
    exact hkeep
  · exact absurd (.inl ⟨err, hd⟩) hno

/-- A CPU step from a state with no fault leads to one exactly when it meets a fatal condition. -/
theorem cpuStep_faulted_iff {s t : State} {l : KeyLevels} (hf : s.faulted = false) (h : cpuStep l s = .next t) :
    t.faulted = true ↔ s.MeetsFatal := by
  constructor
  · intro ht
    by_contra hno
    rw [State.faulted_congr (cpuStep_fault_eq h hno), hf] at ht
    cases ht
  · intro hfatal
    obtain ⟨k, e⟩ := cpuStep_of_meetsFatal l hf hfatal
    cases e.symm.trans h
    rfl

/-- Settles O9: the step raises the fault, and a faulted run is over. -/
theorem invalidWordIsFatal : Obligations.InvalidWordIsFatal := by
  intro s levels e hf hd
  have hfault := s.raise_prepare_fault levels .invalidOpcode s.fetchWord
  exact ⟨_, cpuStep_of_decode_error levels hf hd, hfault, rfl,
    step_over (State.over_of_faulted (State.faulted_of_fault hfault))⟩

/-- Settles O10: a step that faults met a fatal condition, so it is the prepared state with the fault raised. -/
theorem faultsArePrecise : Obligations.FaultsArePrecise := by
  intro s t levels hf h ht
  obtain ⟨k, e⟩ := cpuStep_of_meetsFatal levels hf ((cpuStep_faulted_iff hf h).mp ht)
  cases e.symm.trans h
  exact ⟨⟨k, s.raise_prepare_fault levels k _⟩, rfl, rfl,
    (Frame.prepare s levels).comp (Frame.raise _ _ _) (by simp)⟩

/-- Settles O11, by `cpuStep_faulted_iff`: the statement writes `State.MeetsFatal` out. -/
theorem onlyThreeFatalConditions : Obligations.OnlyThreeFatalConditions :=
  fun _ _ _ hf h => cpuStep_faulted_iff hf h

/-- Settles O18: in each of the two branches the instruction is one `raise`. -/
theorem stackFaults : Obligations.StackFaults :=
  fun s hp => ⟨fun hsp nnn => ⟨_, exec_call_overflow nnn ⟨hp, hsp⟩, rfl, Frame.raise s _ _⟩,
    fun hsp => ⟨_, exec_ret_underflow ⟨hp, hsp⟩, rfl, Frame.raise s _ _⟩⟩

/-! ### The timer ticks -/

/-- `DelayTick` in a machine with no fault is one write of `DT` (R173). -/
theorem State.delayTick_eq {s : State} (h : s.faulted = false) : s.delayTick = s.setDT (timerDown s.dt) :=
  if_neg (by simp [h])

/-- `SoundTick` in a machine with no fault writes `ST`, then the sound flag, and beeps (R174, D18). -/
theorem State.soundTick_eq {s : State} (h : s.faulted = false) :
    s.soundTick = ((s.setST (timerDown s.st)).setSoundOn (timerDown s.st != 0)).beep :=
  if_neg (by simp [h])

/-- The sound flag sampled after a decrement is on exactly when `ST` was above 1 (D18). -/
theorem timerDown_bne_zero_iff (b : Byte) : (timerDown b != 0) = true ↔ 1 < b.toNat := by
  simp only [bne_iff_ne, ne_eq, BitVec.toNat_eq, timerDown_toNat, BitVec.ofNat_eq_ofNat, BitVec.toNat_ofNat]
  omega

/-- Settles O44: one write of `DT`, or nothing in a faulted machine. -/
theorem delayTickCountsDown : Obligations.DelayTickCountsDown := by
  refine fun s => ⟨_, rfl, Frame.delayTick s, fun hf => ?_, State.delayTick_faulted⟩
  rw [State.delayTick_eq hf, State.setDT_dt, timerDown_toNat]
  split <;> omega

/-- Settles O45: the tick's three writes in order, the beep with the flag just sampled. -/
theorem soundTickSamplesAndBeeps : Obligations.SoundTickSamplesAndBeeps := by
  refine fun s hf => ⟨_, rfl, ?_⟩
  rw [State.soundTick_eq hf]
  exact ⟨timerDown_toNat s.st, bne_iff_ne, rfl, rfl, rfl, State.soundTick_eq hf ▸ Frame.soundTick s⟩

theorem State.delayTick_iterate (n : Nat) {s : State} (h : s.faulted = false) :
    (State.delayTick^[n] s).faulted = false ∧ (State.delayTick^[n] s).dt.toNat = s.dt.toNat - n := by
  induction n with
  | zero => exact ⟨h, rfl⟩
  | succ n ih =>
    obtain ⟨hf, hdt⟩ := ih
    rw [Function.iterate_succ_apply', State.delayTick_eq hf]
    refine ⟨hf, ?_⟩
    rw [State.setDT_dt, timerDown_toNat, hdt, Nat.sub_sub]

theorem State.soundTick_iterate (n : Nat) {s : State} (h : s.faulted = false) :
    (State.soundTick^[n] s).faulted = false ∧ (State.soundTick^[n] s).st.toNat = s.st.toNat - n := by
  induction n with
  | zero => exact ⟨h, rfl⟩
  | succ n ih =>
    obtain ⟨hf, hst⟩ := ih
    rw [Function.iterate_succ_apply', State.soundTick_eq hf]
    refine ⟨hf, (timerDown_toNat _).trans ?_⟩
    rw [hst, Nat.sub_sub]

/-- Settles O46, by induction on the ticks; the flag is the one the last tick sampled. -/
theorem timersSaturateAtZero : Obligations.TimersSaturateAtZero := by
  intro n s h
  refine ⟨(State.delayTick_iterate n h).2, (State.soundTick_iterate n h).2, fun hn => ?_⟩
  obtain ⟨m, rfl⟩ : ∃ m, n = m + 1 := ⟨n - 1, by omega⟩
  obtain ⟨hf, hst⟩ := State.soundTick_iterate m h
  rw [Function.iterate_succ_apply', State.soundTick_eq hf]
  refine (timerDown_bne_zero_iff _).trans ?_
  rw [hst]
  omega

/-! ### Key events and the end of the run -/

/-- `push_event` writes only the pending press (R142, D16). -/
theorem State.pushEvent_pending (s : State) (k : Key) :
    (s.pushEvent k).pending = if s.waiting = true ∧ s.pending = none then some k else s.pending := by
  simp only [State.pushEvent, Bool.and_eq_true, Option.isNone_iff_eq_none]
  split <;> rfl

/-- Settles O47: with no fault the event is `push_event`. -/
theorem keyEventLatchesFirstPress : Obligations.KeyEventLatchesFirstPress := by
  refine fun s k hf => ⟨_, rfl, ?_, Frame.keyEvent s k⟩
  have hpush : s.keyEvent k = s.pushEvent k := if_neg (by simp [hf])
  rw [hpush, State.pushEvent_pending]

/-- A run that quit is over (R178). -/
theorem State.quitLoop_over (s : State) : s.quitLoop.over = true :=
  Bool.or_true _

/-- Settles O48: only the quit flag is written, and with it the run is over. -/
theorem quitEndsTheRun : Obligations.QuitEndsTheRun :=
  fun s => ⟨_, rfl, Frame.quitLoop s, step_over s.quitLoop_over⟩

/-! ### The clocks -/

/-- A clock at least one period late is due and moves on by one period (R171). -/
theorem clockTick_of_due {ref hz now : Rat} (h : now - ref ≥ period hz) :
    clockTick ref hz now = (ref + period hz, true) := if_pos h

/-- A clock less than one period late is not due and does not move (R171). -/
theorem clockTick_of_not_due {ref hz now : Rat} (h : now - ref < period hz) :
    clockTick ref hz now = (ref, false) := if_neg (not_le.mpr h)

/-- Settles O49: after `j < k` periods the clock is at least one more period late, after `k` it is not. -/
theorem lateClockCatchesUp : Obligations.LateClockCatchesUp := by
  intro ref hz now k hhz hle hlt
  have hpos : 0 < period hz := one_div_pos.mpr hhz
  change now - ref ≥ k * period hz at hle
  change now - ref < (k + 1) * period hz at hlt
  refine ⟨fun j hj => ?_, clockTick_of_not_due ?_⟩
  · have hjk : ((j : Rat) + 1) * period hz ≤ k * period hz :=
      mul_le_mul_of_nonneg_right (mod_cast hj) hpos.le
    refine (clockTick_of_due (ref := ref + j * period hz) ?_).trans ?_
    · linarith
    · rw [add_one_mul, ← add_assoc]
      rfl
  · change now - (ref + k * period hz) < period hz
    linarith

/-! ### An iteration in which no clock is due -/

/-- An idle iteration checks the three clocks in turn (R180). -/
theorem pollStep_idle {s : State} (now : Rat) (l : KeyLevels) (h : s.settings.wellFormed = true) :
    pollStep (.idle now l) s = checkCpu now l ((s.checkSound now).checkDelay now) := if_pos h

theorem State.checkSound_of_due {s : State} {now : Rat} (h : now - s.clkSound ≥ period s.settings.soundHz) :
    s.checkSound now = (s.setClkSound (s.clkSound + period s.settings.soundHz)).soundTick :=
  (s.checkSound_cases now).elim And.right fun hno => absurd h hno.1

theorem State.checkSound_of_not_due {s : State} {now : Rat} (h : now - s.clkSound < period s.settings.soundHz) :
    s.checkSound now = s :=
  (s.checkSound_cases now).elim (fun hdue => absurd h (not_lt.mpr hdue.1)) And.right

theorem State.checkDelay_of_due {s : State} {now : Rat} (h : now - s.clkDelay ≥ period s.settings.delayHz) :
    s.checkDelay now = (s.setClkDelay (s.clkDelay + period s.settings.delayHz)).delayTick :=
  (s.checkDelay_cases now).elim And.right fun hno => absurd h hno.1

theorem State.checkDelay_of_not_due {s : State} {now : Rat} (h : now - s.clkDelay < period s.settings.delayHz) :
    s.checkDelay now = s :=
  (s.checkDelay_cases now).elim (fun hdue => absurd h (not_lt.mpr hdue.1)) And.right

theorem checkCpu_of_due {s t : State} {now : Rat} {l : KeyLevels} (h : now - s.clkCpu ≥ period s.settings.cpuHz)
    (ht : cpuStep l (s.setClkCpu (s.clkCpu + period s.settings.cpuHz)) = .next t) :
    checkCpu now l s = .next t.afterStep :=
  (checkCpu_cases now l s).elim (fun hdue => hdue.2 t ht) fun hno => absurd h hno.1

theorem checkCpu_of_not_due {s : State} {now : Rat} (l : KeyLevels)
    (h : now - s.clkCpu < period s.settings.cpuHz) : checkCpu now l s = .next s :=
  (checkCpu_cases now l s).elim (fun hdue => absurd h (not_lt.mpr hdue.1)) And.right

/-- Settles O51: each of the three checks leaves the state, and the other two polls are the events themselves. -/
theorem pollWithoutDueClockChangesNothing : Obligations.PollWithoutDueClockChangesNothing := by
  refine fun s now levels hwf => ⟨fun hsound hdelay hcpu => ?_, fun _ => rfl, rfl⟩
  rw [pollStep_idle now levels hwf, State.checkSound_of_not_due hsound, State.checkDelay_of_not_due hdelay,
    checkCpu_of_not_due levels hcpu]

/-! ### The end of an iteration -/

/-- A clean display is not redrawn (R180). -/
theorem State.afterStep_of_clean {s : State} (hf : s.faulted = false) (hd : s.dirty = false) :
    s.afterStep = s.consumeDirty.1 := by
  simp [State.afterStep, hf, hd]

/-- A dirty display is consumed and redrawn (R180, D26). -/
theorem State.afterStep_of_dirty {s : State} (hf : s.faulted = false) (hd : s.dirty = true) :
    s.afterStep = s.consumeDirty.1.emit (redrawCalls s) := by
  simp [State.afterStep, hf, hd]

theorem State.afterStep_dirty {s : State} (hf : s.faulted = false) : s.afterStep.dirty = false := by
  cases hd : s.dirty with
  | false => rw [State.afterStep_of_clean hf hd]; rfl
  | true => rw [State.afterStep_of_dirty hf hd]; rfl

/-- A redraw draws exactly the lit pixels (R181). -/
theorem mem_draws_iff (s : State) (c : PlatformCall) :
    c ∈ (List.range 32).flatMap (rowCalls s) ↔
      ∃ x y, x < 64 ∧ y < 32 ∧ s.pixel x y = true ∧ c = .drawPixel x y := by
  simp only [rowCalls, List.mem_flatMap, List.mem_map, List.mem_filter, List.mem_range]
  constructor
  · rintro ⟨y, hy, x, ⟨hx, hlit⟩, rfl⟩
    exact ⟨x, y, hx, hy, hlit, rfl⟩
  · rintro ⟨x, y, hx, hy, hlit, rfl⟩
    exact ⟨y, hy, x, ⟨hx, hlit⟩, rfl⟩

/-- Settles O52, for a clean and for a dirty display. -/
theorem dirtyDisplayIsRedrawn : Obligations.DirtyDisplayIsRedrawn := by
  refine fun s hf => ⟨State.afterStep_dirty hf, Frame.afterStep s, ?_⟩
  cases hd : s.dirty with
  | false =>
    rw [State.afterStep_of_clean hf hd]
    exact ⟨rfl, rfl, fun _ => rfl, nofun⟩
  | true =>
    rw [State.afterStep_of_dirty hf hd]
    exact ⟨rfl, rfl, nofun, fun _ => ⟨_, rfl, mem_draws_iff s⟩⟩

/-! ### An iteration in which all clocks are due -/

/-- What the sound clock's check writes when it is due (R174, R180). -/
theorem State.checkSound_writes {s : State} {now : Rat} (hf : s.faulted = false)
    (h : now - s.clkSound ≥ period s.settings.soundHz) :
    (s.checkSound now).st = timerDown s.st ∧ (s.checkSound now).soundOn = (timerDown s.st != 0) ∧
      (s.checkSound now).clkSound = s.clkSound + period s.settings.soundHz := by
  have hset : (s.setClkSound (s.clkSound + period s.settings.soundHz)).faulted = false := hf
  rw [State.checkSound_of_due h, State.soundTick_eq hset]
  exact ⟨rfl, rfl, rfl⟩

/-- What the delay clock's check writes when it is due (R173, R180). -/
theorem State.checkDelay_writes {s : State} {now : Rat} (hf : s.faulted = false)
    (h : now - s.clkDelay ≥ period s.settings.delayHz) :
    (s.checkDelay now).dt = timerDown s.dt ∧
      (s.checkDelay now).clkDelay = s.clkDelay + period s.settings.delayHz := by
  have hset : (s.setClkDelay (s.clkDelay + period s.settings.delayHz)).faulted = false := hf
  rw [State.checkDelay_of_due h, State.delayTick_eq hset]
  exact ⟨rfl, rfl⟩

/-- The parts of the state that the checks of the sound and the delay clock may write. -/
def tickFields : List Field := [.clkSound, .st, .soundOn, .platform, .clkDelay, .dt]

/-- The state after the checks of the sound and the delay clock of one iteration (R180). -/
def State.ticked (s : State) (now : Rat) : State := (s.checkSound now).checkDelay now

theorem Frame.ticked (s : State) (now : Rat) : Frame tickFields s (s.ticked now) :=
  (Frame.checkSound s now).comp (Frame.checkDelay _ now) (by simp [tickFields])

/-- What the two checks write, both due: each its own timer and reference point (R167, R180). -/
theorem State.ticked_writes {s : State} {now : Rat} (hf : s.faulted = false)
    (hsound : now - s.clkSound ≥ period s.settings.soundHz)
    (hdelay : now - s.clkDelay ≥ period s.settings.delayHz) :
    (s.ticked now).dt = timerDown s.dt ∧ (s.ticked now).st = timerDown s.st ∧
      (s.ticked now).soundOn = (timerDown s.st != 0) ∧
      (s.ticked now).clkSound = s.clkSound + period s.settings.soundHz ∧
      (s.ticked now).clkDelay = s.clkDelay + period s.settings.delayHz := by
  have hs : Frame _ s (s.checkSound now) := Frame.checkSound s now
  have hd : Frame _ (s.checkSound now) (s.ticked now) := Frame.checkDelay _ now
  have hset : (s.checkSound now).settings = s.settings := hs .settings (by decide)
  have hclk : (s.checkSound now).clkDelay = s.clkDelay := hs .clkDelay (by decide)
  have hdt : (s.checkSound now).dt = s.dt := hs .dt (by decide)
  obtain ⟨hst, hon, hclkS⟩ := State.checkSound_writes hf hsound
  have hdelayD := State.checkDelay_writes (s := s.checkSound now) (now := now) (hs.faulted (by decide) ▸ hf)
    (by rwa [hclk, hset])
  rw [hdt, hclk, hset] at hdelayD
  obtain ⟨hdtD, hclkD⟩ := hdelayD
  exact ⟨hdtD, Eq.trans (hd .st (by decide)) hst, Eq.trans (hd .soundOn (by decide)) hon,
    Eq.trans (hd .clkSound (by decide)) hclkS, hclkD⟩

theorem Frame.ticked_setClkCpu (s : State) (now r : Rat) :
    Frame (.clkCpu :: tickFields) s ((s.ticked now).setClkCpu r) :=
  (Frame.ticked s now).comp (Frame.setClkCpu (s.ticked now) r) (by simp [or_comm])

/-- The state in which the instruction of an iteration executes when the CPU clock is due: after the two other checks,
with the CPU clock moved on, the key levels polled and `pc` advanced (R180). -/
def State.turn (s : State) (now : Rat) (l : KeyLevels) : State :=
  ((s.ticked now).setClkCpu (s.clkCpu + period s.settings.cpuHz)).prepare l

theorem Frame.ticked_turn (s : State) (now : Rat) (l : KeyLevels) :
    Frame [.clkCpu, .keys, .pc] (s.ticked now) (s.turn now l) :=
  (Frame.setClkCpu (s.ticked now) _).comp (Frame.prepare _ l) (by simp)

theorem Frame.turn (s : State) (now : Rat) (l : KeyLevels) :
    Frame (tickFields ++ [.clkCpu, .keys, .pc]) s (s.turn now l) :=
  Frame.comp (t := s.ticked now) (Frame.ticked s now) (Frame.ticked_turn s now l) fun _ h => h

/-- What the instruction finds of the two ticks, both due. -/
theorem State.turn_writes {s : State} {now : Rat} (l : KeyLevels) (hf : s.faulted = false)
    (hsound : now - s.clkSound ≥ period s.settings.soundHz)
    (hdelay : now - s.clkDelay ≥ period s.settings.delayHz) :
    (s.turn now l).dt = timerDown s.dt ∧ (s.turn now l).st = timerDown s.st ∧
      (s.turn now l).soundOn = (timerDown s.st != 0) ∧
      (s.turn now l).clkSound = s.clkSound + period s.settings.soundHz ∧
      (s.turn now l).clkDelay = s.clkDelay + period s.settings.delayHz := by
  have hkeep := Frame.ticked_turn s now l
  obtain ⟨hdt, hst, hon, hclkS, hclkD⟩ := State.ticked_writes hf hsound hdelay
  exact ⟨Eq.trans (hkeep .dt (by decide)) hdt, Eq.trans (hkeep .st (by decide)) hst,
    Eq.trans (hkeep .soundOn (by decide)) hon, Eq.trans (hkeep .clkSound (by decide)) hclkS,
    Eq.trans (hkeep .clkDelay (by decide)) hclkD⟩

theorem State.turn_keys (s : State) (now : Rat) (l : KeyLevels) : (s.turn now l).keys = l := rfl

theorem State.turn_clkCpu (s : State) (now : Rat) (l : KeyLevels) :
    (s.turn now l).clkCpu = s.clkCpu + period s.settings.cpuHz := rfl

theorem State.turn_pc (s : State) (now : Rat) (l : KeyLevels) : (s.turn now l).pc = s.pc + 2 := by
  have hpc : (s.ticked now).pc = s.pc := Frame.ticked s now .pc (by decide)
  rw [← hpc]
  rfl

/-- An idle iteration with the CPU clock due executes the instruction in that state and then ends (R180). -/
theorem pollStep_idle_of_cpu_due {s u : State} {now : Rat} {l : KeyLevels} {i : Instr} (hf : s.faulted = false)
    (hwf : s.settings.wellFormed = true) (hd : decode s.fetchWord = .ok i)
    (hcpu : now - s.clkCpu ≥ period s.settings.cpuHz) (hexec : exec i (s.turn now l) = .next u) :
    pollStep (.idle now l) s = .next u.afterStep := by
  have htick := Frame.ticked s now
  have hset : (s.ticked now).settings = s.settings := htick .settings (by decide)
  have hclk : (s.ticked now).clkCpu = s.clkCpu := htick .clkCpu (by decide)
  have hmoved := Frame.ticked_setClkCpu s now (s.clkCpu + period s.settings.cpuHz)
  have hdec : decode ((s.ticked now).setClkCpu (s.clkCpu + period s.settings.cpuHz)).fetchWord = .ok i := by
    rw [hmoved.fetchWord (by decide) (by decide), hd]
  have hstep := (cpuStep_of_decode l (hmoved.faulted (by decide) ▸ hf) hdec).trans hexec
  rw [pollStep_idle now l hwf]
  exact checkCpu_of_due (s := s.ticked now) (by rwa [hclk, hset]) (by rwa [hclk, hset])

/-- What a move between a register and a timer does (45_keyboard_timers.md R147 to R149). -/
theorem exec_timerMove {i : Instr} {x : RegIdx} (hi : i = .lddt x ∨ i = .stst x ∨ i = .stdt x) (s : State) :
    ∃ u, exec i s = .next u ∧ u.getV x = (if i = .lddt x then s.dt else s.getV x) ∧
      u.dt = (if i = .stdt x then s.getV x else s.dt) ∧ u.st = (if i = .stst x then s.getV x else s.st) ∧
      SameV [x] s u ∧ Frame [.v, .dt, .st] s u := by
  rcases hi with rfl | rfl | rfl
  · exact ⟨_, rfl, by simp, by simp, by simp, SameV.setV s x _ (by simp), (Frame.setV s x _).mono (by simp)⟩
  · exact ⟨_, rfl, by simp, by simp, by simp, (Frame.setST s _).sameV (by simp), (Frame.setST s _).mono (by simp)⟩
  · exact ⟨_, rfl, by simp, by simp, by simp, (Frame.setDT s _).sameV (by simp), (Frame.setDT s _).mono (by simp)⟩

/-- Settles O50: the instruction executes after the two ticks, so LDDT reads and STDT and STST overwrite what they
left; the end of the iteration only consumes the dirty flag. -/
theorem dueTicksPrecedeTheStep : Obligations.DueTicksPrecedeTheStep := by
  intro x s now levels i hf hwf hd hi hsound hdelay hcpu
  obtain ⟨u, hexec, hv, hdt, hst, hsame, hframe⟩ := exec_timerMove hi (s.turn now levels)
  have hturn := Frame.turn s now levels
  obtain ⟨hdtT, hstT, honT, hclkS, hclkD⟩ := State.turn_writes levels hf hsound hdelay
  have hvT : (s.turn now levels).getV x = s.getV x := hturn .v (by decide) x
  have huf : u.faulted = false := hframe.faulted (by decide) ▸ hturn.faulted (by decide) ▸ hf
  have hend := Frame.afterStep u
  have hall : Frame [.v, .dt, .st, .dirty, .platform] (s.turn now levels) u.afterStep :=
    hframe.comp hend (by simp)
  refine ⟨_, pollStep_idle_of_cpu_due hf hwf hd hcpu hexec, ?_, ?_, ?_, ?_,
    Eq.trans (hall .pc (by decide)) (s.turn_pc now levels),
    Eq.trans (hall .keys (by decide)) (s.turn_keys now levels), State.afterStep_dirty huf,
    Eq.trans (hall .clkSound (by decide)) hclkS, Eq.trans (hall .clkDelay (by decide)) hclkD,
    Eq.trans (hall .clkCpu (by decide)) (s.turn_clkCpu now levels),
    (hturn.sameV (by decide)).trans (hsame.trans (hend.sameV (by decide)))⟩
  · rw [hend .v (by decide) x, hv, apply_ite BitVec.toNat, hvT, hdtT, timerDown_toNat]
  · rw [Eq.trans (hend .dt (by decide)) hdt, apply_ite BitVec.toNat, hvT, hdtT, timerDown_toNat]
  · rw [Eq.trans (hend .st (by decide)) hst, apply_ite BitVec.toNat, hvT, hstT, timerDown_toNat]
  · rw [Eq.trans (hall .soundOn (by decide)) honT]
    exact timerDown_bne_zero_iff s.st

end Sys2Proof.Machine

/-! Construction and the read-only parameters (70_reset_and_hazards.md R190 to R194): no step writes the Settings, and
construction is the reset state with the ROM's bytes written from `0x200` on, which is where the invariant begins. -/
namespace Sys2Proof.Machine

/-! ### No step changes the Settings -/

/-- A CPU step does nothing, runs an instruction, or raises a fault; none of them writes the Settings. -/
theorem cpuStep_settings {l : KeyLevels} {s t : State} (h : cpuStep l s = .next t) : t.settings = s.settings := by
  rcases cpuStep_cases l s with ⟨-, e⟩ | ⟨i, -, -, e⟩ | ⟨err, -, -, e⟩ <;> rw [e] at h
  · cases h; rfl
  · exact (exec_settings h).trans (Frame.prepare s l .settings (by decide))
  · cases h; rfl

theorem checkCpu_settings {now : Rat} {l : KeyLevels} {s t : State} (h : checkCpu now l s = .next t) :
    t.settings = s.settings := by
  rcases checkCpu_next h with rfl | ⟨u, hu, rfl⟩
  · rfl
  · have hend : u.afterStep.settings = u.settings := Frame.afterStep u .settings (by decide)
    rw [hend, cpuStep_settings hu, State.setClkCpu_settings]

theorem eventStep_settings {e : Event} {s t : State} (h : eventStep e s = .next t) : t.settings = s.settings := by
  cases e with
  | cpuStep l => exact cpuStep_settings h
  | delayTick => cases h; exact Frame.delayTick s .settings (by decide)
  | soundTick => cases h; exact Frame.soundTick s .settings (by decide)
  | keyEvent k => cases h; exact Frame.keyEvent s k .settings (by decide)
  | quit => cases h; rfl

/-- An idle iteration that answers a next state is not refused, so it is the three checks of R180. -/
theorem pollStep_settings {p : Poll} {s t : State} (h : pollStep p s = .next t) : t.settings = s.settings := by
  cases p with
  | quit => cases h; rfl
  | keyPress k => cases h; exact Frame.keyEvent s k .settings (by decide)
  | idle now l =>
    simp only [pollStep] at h
    split at h
    · exact (checkCpu_settings h).trans (Frame.ticked s now .settings (by decide))
    · cases h

/-- Settles O57: no kind of input changes the Settings, and a step serves one of them. -/
theorem settingsNeverChange : Obligations.SettingsNeverChange := by
  intro s t h
  rcases step_cases s with ⟨-, e⟩ | ⟨-, -, e⟩ | ⟨ev, rest, -, -, e⟩ | ⟨p, rest, -, -, e⟩ <;> rw [e] at h
  · cases h; rfl
  · exact cpuStep_settings h
  · exact (eventStep_settings h).trans (s.setInbox_settings rest)
  · exact (pollStep_settings h).trans (s.setInbox_settings rest)

/-! ### Bytes written at rising addresses -/

theorem Frame.writeBytes (s : State) (a : Nat) (l : List Byte) : Frame [.mem] s (s.writeBytes a l) := by
  induction l generalizing s a with
  | nil => exact Frame.refl s _
  | cons b rest ih => exact (Frame.writeByte s a b).trans (ih _ _)

theorem SameMemOutside.writeBytes (s : State) (a : Nat) (l : List Byte) :
    SameMemOutside a l.length s (s.writeBytes a l) := by
  induction l generalizing s a with
  | nil => exact fun _ _ => rfl
  | cons b rest ih =>
    intro c hc
    have hrest : ∀ j, j < rest.length → c % 4096 ≠ (a + 1 + j) % 4096 := fun j hj => by
      rw [Nat.add_right_comm]
      exact hc (j + 1) (Nat.succ_lt_succ hj)
    rw [State.writeBytes, ih _ _ c hrest]
    exact State.readByte_writeByte_of_ne s b (hc 0 (Nat.succ_pos _))

/-- Address `a + k` holds byte `k`: a list of at most 4096 bytes does not wrap onto its own beginning. -/
theorem State.writeBytes_readByte (s : State) (a : Nat) {l : List Byte} (hl : l.length ≤ 4096) {k : Nat}
    (hk : k < l.length) : (s.writeBytes a l).readByte (a + k) = l[k] := by
  induction l generalizing s a k with
  | nil => cases hk
  | cons b rest ih =>
    rw [List.length_cons] at hl hk
    cases k with
    | zero =>
      have hrest : ∀ j, j < rest.length → a % 4096 ≠ (a + 1 + j) % 4096 := fun j hj => by omega
      exact (SameMemOutside.writeBytes _ _ rest a hrest).trans (State.readByte_writeByte_self s a b)
    | succ k =>
      rw [State.writeBytes, show a + (k + 1) = a + 1 + k by omega]
      exact ih _ (a + 1) (by omega) (by omega)

/-! ### Construction -/

/-- Construction refuses bad Settings and a ROM that does not fit, and nothing else (R190, R192, R194). -/
theorem State.construct_eq_ok_iff {c : Settings} {rom : List Byte} {s : State} :
    State.construct c rom = .ok s ↔
      c.wellFormed = true ∧ rom.length ≤ 3584 ∧ s = (State.init c).writeBytes 0x200 rom := by
  unfold State.construct
  by_cases hc : c.wellFormed = true
  · by_cases hrom : rom.length ≤ 3584
    · simp [hc, hrom, romFits, eq_comm]
    · simp [hc, hrom, romFits]
  · simp [hc]

/-- Settles O60: construction writes the ROM's bytes over the reset state, and `0x200 + 3584` is the end of memory, so
none of them wraps. -/
theorem constructionPlacesRom : Obligations.ConstructionPlacesRom := by
  refine fun c rom => ⟨⟨fun ⟨s, h⟩ => ?_, fun ⟨hc, hrom⟩ => ⟨_, State.construct_eq_ok_iff.mpr ⟨hc, hrom, rfl⟩⟩⟩,
    fun s h => ?_⟩
  · obtain ⟨hc, hrom, -⟩ := State.construct_eq_ok_iff.mp h
    exact ⟨hc, hrom⟩
  · obtain ⟨-, hrom, rfl⟩ := State.construct_eq_ok_iff.mp h
    refine ⟨fun k hk => State.writeBytes_readByte _ _ (by omega) hk, fun a ha hout => ?_, Frame.writeBytes _ _ _⟩
    exact SameMemOutside.writeBytes _ _ rom a fun j hj => by omega

/-! ### The invariant at construction -/

/-- A clock's reference point at reset is zero periods after `T0` (R27). -/
theorem OnGrid.self (t0 hz : Rat) : OnGrid t0 hz t0 :=
  ⟨0, by simp⟩

/-- The reset state of Settings that pass their check meets the invariant (R31). -/
theorem State.init_inv {c : Settings} (h : c.wellFormed = true) : (State.init c).Inv where
  settings := h
  mem := State.init_memOk c
  latch := fun hpending => absurd rfl hpending
  stack := fun _ => Nat.zero_le 16
  rng := .inl rfl
  clocks := ⟨OnGrid.self _ _, OnGrid.self _ _, OnGrid.self _ _⟩

/-- Of the invariant a write to memory concerns the canonical form only. -/
theorem State.writeBytes_inv {s : State} (hi : s.Inv) (a : Nat) (l : List Byte) : (s.writeBytes a l).Inv := by
  induction l generalizing s a with
  | nil => exact hi
  | cons b rest ih => exact ih (s := s.writeByte a b) { hi with mem := State.writeByte_memOk hi.mem a b } (a + 1)

/-- The default Settings pass their check. -/
theorem Settings.default_wellFormed : Settings.default.wellFormed = true := by
  decide

/-- Settles O56: a machine is constructed only from Settings that pass their check, and writing the ROM keeps the
invariant. -/
theorem constructionMeetsInvariant : Obligations.ConstructionMeetsInvariant := by
  refine ⟨State.init_inv Settings.default_wellFormed, fun c rom s h => ?_⟩
  obtain ⟨hc, -, rfl⟩ := State.construct_eq_ok_iff.mp h
  exact State.writeBytes_inv (State.init_inv hc) 0x200 rom

end Sys2Proof.Machine
